-- ==== Sys2Proof/Word.lean ====
section
/-! DEFINITION. The word types of the engine and their plainest arithmetic (spec 00_scope.md R8, R9).
Every value is unsigned; addition and subtraction wrap mod 2^32 and keep no carry. -/

namespace Sys2Proof

/-- An 8-bit byte of an operand space or of `KW`. -/
abbrev Byte := BitVec 8

/-- A 32-bit word: `WORD_BITS` of R7. -/
abbrev Word := BitVec 32

/-- A 5-bit rotation amount, 0 to 31: `ROT_BITS` of R7. -/
abbrev Rot := BitVec 5

/-- R9 `add32(a, b) = (a + b) mod 2^32`. -/
def add32 (a b : Word) : Word := a + b

/-- R9 `sub32(a, b) = (a - b) mod 2^32`. -/
def sub32 (a b : Word) : Word := a - b

/-- R9 `xor(a, b)`, bitwise exclusive or. -/
def xor32 (a b : Word) : Word := a ^^^ b

end Sys2Proof
end

