-- ==== Sys2Proof/Machine/RoundFunctions.lean ====
section
/-! DEFINITION. RoundFunctions: the rotation, the S-box substitution and `F1`, `F2`, `F3`
(spec 41_round_functions.md R160 to R168). -/

namespace Sys2Proof.Machine

/-- R107 `low5(v) = v[4:0]`. -/
def low5 (v : Word) : Rot := v.extractLsb' 0 5

/-- R161 `ROTL32(v, n)`: circular left shift. -/
def rotl32 (v : Word) (n : Rot) : Word :=
  if n = 0 then v else (v <<< n.toNat) + (v >>> (32 - n.toNat))

/-- R162: the four values of a substitution. -/
structure SubWords where
  s1 : Word
  s2 : Word
  s3 : Word
  s4 : Word
  deriving DecidableEq, Repr

/-- R162 `SBOXSUB(I)`: the most significant byte indexes table 1. -/
def sboxsub (i : Word) : SubWords :=
  { s1 := Config.entry Config.s1 (i.extractLsb' 24 8)
    s2 := Config.entry Config.s2 (i.extractLsb' 16 8)
    s3 := Config.entry Config.s3 (i.extractLsb' 8 8)
    s4 := Config.entry Config.s4 (i.extractLsb' 0 8) }

/-- R163, the output combination: `((S1 ^ S2) - S3) + S4`. -/
def SubWords.out1 (t : SubWords) : Word := add32 (sub32 (xor32 t.s1 t.s2) t.s3) t.s4

/-- R164, the output combination: `((S1 - S2) + S3) ^ S4`. -/
def SubWords.out2 (t : SubWords) : Word := xor32 (add32 (sub32 t.s1 t.s2) t.s3) t.s4

/-- R165, the output combination: `((S1 + S2) ^ S3) - S4`. -/
def SubWords.out3 (t : SubWords) : Word := sub32 (xor32 (add32 t.s1 t.s2) t.s3) t.s4

/-- R163 `F1(D, Kr, Km)`: the mask is combined by addition. -/
def f1 (d : Word) (kr : Rot) (km : Word) : Word := (sboxsub (rotl32 (add32 km d) kr)).out1

/-- R164 `F2(D, Kr, Km)`: the mask is combined by exclusive or. -/
def f2 (d : Word) (kr : Rot) (km : Word) : Word := (sboxsub (rotl32 (xor32 km d) kr)).out2

/-- R165 `F3(D, Kr, Km)`: the mask is combined by subtraction, mask minus data. -/
def f3 (d : Word) (kr : Rot) (km : Word) : Word := (sboxsub (rotl32 (sub32 km d) kr)).out3

end Sys2Proof.Machine
end

