-- ==== Sys2Proof/Syntax.lean ====
section
/-! DEFINITION. The commands of the engine and the fields of a command word (spec 30_encoding.md R100, R101). -/

namespace Sys2Proof

/-- R101, the complete opcode map. A command carries no operand in its word: its operands are the `LEN` register,
the operand space bound to the command and, for a transform, the key material (R100). -/
inductive Instr where
  /-- `DERIVEKEY`, the source's `deriveKey` (R137). -/
  | derivekey
  /-- `XFORM.E`, the source's `transform` with direction Encrypt (R204). -/
  | xformE
  /-- `XFORM.D`, the source's `transform` with direction Decrypt (R205). -/
  | xformD
  deriving DecidableEq, Repr

/-- R100: the fields of a command word, most significant first. -/
structure CmdFields where
  /-- bits 31:9, reserved, must be 0 -/
  reserved : BitVec 23
  /-- bit 8, `DIR`: 0 Encrypt, 1 Decrypt -/
  dir : BitVec 1
  /-- bits 7:0, `OP` -/
  op : BitVec 8
  deriving DecidableEq, Repr

/-- R110: one line of a program: a command and its operand byte sequence, offset 0 first. `LEN` is the number of bytes. -/
structure Line where
  command : Instr
  operand : List Byte
  deriving DecidableEq, Repr

/-- R111: the pseudo-commands of the engine, with their operands. `PAD.ENCRYPT` is the padding collaborator's, outside the
engine (R5, R214). -/
inductive Pseudo where
  /-- `ENCRYPT buf` -/
  | encrypt (buf : List Byte)
  /-- `DECRYPT buf` -/
  | decrypt (buf : List Byte)
  /-- `ENCBLK blk`, whose operand is one block of 16 bytes -/
  | encblk (blk : Vector Byte 16)
  /-- `DECBLK blk`, whose operand is one block of 16 bytes -/
  | decblk (blk : Vector Byte 16)
  /-- `REKEY kw` -/
  | rekey (kw : List Byte)
  deriving DecidableEq, Repr

end Sys2Proof
end

