-- ==== Sys2Proof/Machine/State.lean ====
section
/-! DEFINITION. The state of the engine and of what the host has given it (spec 10_state.md), the reasons a step can
stop, and the state after reset (R47, R280). -/

namespace Sys2Proof.Machine

/-- R36: the block working registers `x[0..3]`, by their aliases `A` to `D`. -/
structure Block where
  a : Word
  b : Word
  c : Word
  d : Word
  deriving DecidableEq, Repr

/-- R37: the key working registers `k[0..7]`, by their aliases `A` to `H`. -/
structure KeyRegs where
  a : Word
  b : Word
  c : Word
  d : Word
  e : Word
  f : Word
  g : Word
  h : Word
  deriving DecidableEq, Repr

/-- R240: the outcomes `STATUS.ERR` can hold, and no others (U8). -/
inductive ErrCode where
  | none
  | invalidKeyLength
  | invalidBufferLength
  | noKey
  | illegalCommand
  deriving DecidableEq, Repr

/-- R45, R70: one operand space as the host has bound it: the bytes at offsets 0 to `size - 1`. An offset below
`size` that `cells` does not list holds 0; no offset at or above `size` exists. -/
structure Space where
  size : Nat
  cells : List Host.Cell
  deriving DecidableEq, Repr

/-- R45: the two operand spaces. -/
inductive SpaceId where
  | keyword
  | buffer
  deriving DecidableEq, Repr

/-- What the host, the second agent (R12), can do to the engine. -/
inductive HostMove where
  /-- write a word to the register of that number (R43); a write of `CMD` issues a command (R40) -/
  | writeReg (reg : Nat) (value : Word)
  /-- read the register of that number (R43) -/
  | readReg (reg : Nat)
  /-- bind a byte sequence as an operand space (R70, R110) -/
  | bindOperand (space : SpaceId) (bytes : List Byte)
  /-- the platform resets the engine between two commands (R280) -/
  | reset
  /-- the host writes the word to `CMD` and a reset arrives while that command runs (R281) -/
  | resetDuring (word : Word)
  deriving DecidableEq, Repr

/-- The machine: the engine, and the host's side of the interface. -/
structure State where
  /-- `KW[0..31]`, the normalized keyword (R31) -/
  kw : Vector Byte 32
  /-- `KM[0..47]`, the masking words (R32) -/
  km : Vector Word 48
  /-- `KR[0..47]`, the rotation amounts (R33) -/
  kr : Vector Rot 48
  /-- `KVALID` (R34) -/
  kvalid : Bool
  /-- `STATUS.ERR` (R41) -/
  err : ErrCode
  /-- `LEN`, zero-extended to 32 bits (R42) -/
  len : Word
  /-- `x[0..3]`, working registers (R36) -/
  x : Block
  /-- `k[0..7]`, working registers (R37) -/
  k : KeyRegs
  /-- the KEYWORD space, the host's memory (R45) -/
  keyword : Space
  /-- the BUFFER space, the host's memory (R45) -/
  buffer : Space
  /-- the host's moves not yet made, the next one first -/
  pending : List HostMove
  /-- what the host's most recent read of an engine register returned -/
  readback : Option Word
  /-- the open parameters, inputs of every step (R7, R48) -/
  params : Params
  /-- the model's own counter: how many times contents have become unspecified; it indexes the free values of `Config` -/
  epoch : Nat
  deriving DecidableEq, Repr

/-- Why the machine stops. -/
inductive Fault where
  /-- Raised by `step` when the host has no move left: "with no command it has no step" (R12). A stuck state, not an
  error of the engine. Safe. -/
  | idle
  deriving DecidableEq, Repr

/-- Why the model gives no next state. -/
inductive Refusal where
  /-- Raised by an arm of `exec` that has no meaning yet; no arm uses it. Safe. -/
  | notModelled (mnemonic : String)
  /-- Raised by all three commands when the bound operand space holds fewer bytes than the command would access,
  which the spec leaves not defined and tells a model to refuse (R284 H9, U6). Safe. -/
  | operandTooShort
  deriving DecidableEq, Repr

/-- `KW` with unspecified contents. -/
def unspecifiedKw (epoch : Nat) : Vector Byte 32 := Vector.ofFn fun n => Config.kwUnspecified epoch n

/-- `KM` with unspecified contents. -/
def unspecifiedKm (epoch : Nat) : Vector Word 48 := Vector.ofFn fun n => Config.kmUnspecified epoch n

/-- `KR` with unspecified contents. -/
def unspecifiedKr (epoch : Nat) : Vector Rot 48 := Vector.ofFn fun n => Config.krUnspecified epoch n

/-- `x[0..3]` with unspecified contents. -/
def unspecifiedX (epoch : Nat) : Block :=
  let v := Config.xUnspecified epoch
  { a := v 0, b := v 1, c := v 2, d := v 3 }

/-- `k[0..7]` with unspecified contents. -/
def unspecifiedK (epoch : Nat) : KeyRegs :=
  let v := Config.kUnspecified epoch
  { a := v 0, b := v 1, c := v 2, d := v 3, e := v 4, f := v 5, g := v 6, h := v 7 }

/-- R47, R280: the machine right after reset. `KVALID`, `ERR` and `LEN` are 0; `KW`, `KM`, `KR` and the working
registers hold the unspecified contents of epoch 0; the host has bound nothing and has no move pending. -/
def State.reset : State :=
  { kw := unspecifiedKw 0
    km := unspecifiedKm 0
    kr := unspecifiedKr 0
    kvalid := false
    err := .none
    len := 0
    x := unspecifiedX 0
    k := unspecifiedK 0
    keyword := { size := 0, cells := [] }
    buffer := { size := 0, cells := [] }
    pending := []
    readback := none
    params := Params.default
    epoch := 1 }

end Sys2Proof.Machine
end

