-- ==== Sys2Proof/Machine/BlockTransform.lean ====
section
/-! DEFINITION. BlockTransform: the quad-rounds `Q`, `QBAR` and the block functions `ENCBLK`, `DECBLK`
(spec 42_block_transform.md R180 to R188). They are functions of a block and the key material and keep no state of
their own (R180, R187). -/

namespace Sys2Proof.Machine

/-- The key material a transform reads (R32, R33, R106). -/
structure KeyMaterial where
  km : Vector Word 48
  kr : Vector Rot 48
  deriving DecidableEq, Repr

/-- The key material in the engine's one key slot. -/
def keyMaterial (s : State) : KeyMaterial := { km := s.km, kr := s.kr }

/-- `KM[4i + t]` (R106). -/
def KeyMaterial.mask (m : KeyMaterial) (i : Fin 12) (t : Fin 4) : Word := m.km[4 * i.val + t.val]

/-- `KR[4i + t]` (R106). -/
def KeyMaterial.rot (m : KeyMaterial) (i : Fin 12) (t : Fin 4) : Rot := m.kr[4 * i.val + t.val]

/-- The first round of `Q(i)`: `C ^= f1(D, Kr0, Km0)` (R181). -/
def roundC (m : KeyMaterial) (i : Fin 12) (x : Block) : Block := { x with c := xor32 x.c (f1 x.d (m.rot i 0) (m.mask i 0)) }

/-- The second round of `Q(i)`: `B ^= f2(C, Kr1, Km1)` (R181). -/
def roundB (m : KeyMaterial) (i : Fin 12) (x : Block) : Block := { x with b := xor32 x.b (f2 x.c (m.rot i 1) (m.mask i 1)) }

/-- The third round of `Q(i)`: `A ^= f3(B, Kr2, Km2)` (R181). -/
def roundA (m : KeyMaterial) (i : Fin 12) (x : Block) : Block := { x with a := xor32 x.a (f3 x.b (m.rot i 2) (m.mask i 2)) }

/-- The fourth round of `Q(i)`: `D ^= f1(A, Kr3, Km3)` (R181). -/
def roundD (m : KeyMaterial) (i : Fin 12) (x : Block) : Block := { x with d := xor32 x.d (f1 x.a (m.rot i 3) (m.mask i 3)) }

/-- R181 `Q(i)`, the forward quad-round. -/
def quad (m : KeyMaterial) (x : Block) (i : Fin 12) : Block := roundD m i (roundA m i (roundB m i (roundC m i x)))

/-- R182 `QBAR(i)`, the reverse quad-round: the same four rounds in the opposite order. -/
def quadBar (m : KeyMaterial) (x : Block) (i : Fin 12) : Block := roundC m i (roundB m i (roundA m i (roundD m i x)))

/-- R183 `ENCBLK`: `Q(0)` to `Q(5)`, then `QBAR(6)` to `QBAR(11)`. -/
def encblk (m : KeyMaterial) (x : Block) : Block :=
  ([6, 7, 8, 9, 10, 11] : List (Fin 12)).foldl (quadBar m) (([0, 1, 2, 3, 4, 5] : List (Fin 12)).foldl (quad m) x)

/-- R184 `DECBLK`: `Q(11)` down to `Q(6)`, then `QBAR(5)` down to `QBAR(0)`. -/
def decblk (m : KeyMaterial) (x : Block) : Block :=
  ([5, 4, 3, 2, 1, 0] : List (Fin 12)).foldl (quadBar m) (([11, 10, 9, 8, 7, 6] : List (Fin 12)).foldl (quad m) x)

end Sys2Proof.Machine
end

