-- ==== Sys2Proof/WellFormed.lean ====
section
/-! DEFINITION. Which command fields are well formed (spec 30_encoding.md R100 to R102), one check a rule clause.
`Instr` itself has no operand that could be ill formed; the checks are on the fields a host writes. -/

namespace Sys2Proof

/-- R102: `OP` is 0x01 or 0x02. -/
def CmdFields.opKnown (f : CmdFields) : Bool := f.op == 0x01 || f.op == 0x02

/-- R100: `DIR` must be 0 when `OP` is not `XFORM`. -/
def CmdFields.dirAllowed (f : CmdFields) : Bool := f.dir == 0 || f.op == 0x02

/-- R100: bits 31:9 must be 0. -/
def CmdFields.reservedZero (f : CmdFields) : Bool := f.reserved == 0

/-- R102: a command word is legal when its fields pass every check. -/
def CmdFields.wf (f : CmdFields) : Bool := f.reservedZero && f.opKnown && f.dirAllowed

end Sys2Proof
end

