-- ==== Sys2Proof/Decode.lean ====
section
/-! DEFINITION. The command decoder, total on every 32-bit word, and the encoder
(spec 30_encoding.md R100 to R103). -/

namespace Sys2Proof

/-- Why a word is illegal (R102). The host sees one error for all three, IllegalCommand (60_exceptions.md R244). -/
inductive CmdReject where
  /-- one of bits 31:9 is set -/
  | reservedBits
  /-- `OP` is neither 0x01 nor 0x02 -/
  | unknownOp
  /-- `OP` is 0x01 and `DIR` is 1 -/
  | dirOnDerivekey
  deriving DecidableEq, Repr

/-- R100: the fields of a word: `OP = w[7:0]`, `DIR = w[8]`, `w[31:9]` reserved. -/
def CmdFields.ofWord (w : Word) : CmdFields :=
  { reserved := w.extractLsb' 9 23, dir := w.extractLsb' 8 1, op := w.extractLsb' 0 8 }

/-- R100: the word with these fields. -/
def CmdFields.toWord (f : CmdFields) : Word := (f.reserved ++ f.dir ++ f.op : BitVec (23 + 1 + 8))

/-- R101, R102 on fields. -/
def decodeFields (f : CmdFields) : Except CmdReject Instr :=
  if f.reserved ≠ 0 then .error .reservedBits
  else if f.op = 0x01 then (if f.dir = 0 then .ok .derivekey else .error .dirOnDerivekey)
  else if f.op = 0x02 then (if f.dir = 0 then .ok .xformE else .ok .xformD)
  else .error .unknownOp

/-- The verdict on a word written to `CMD`: a command, or the reason it is illegal. It reads no state (R103). -/
def decode (w : Word) : Except CmdReject Instr := decodeFields (CmdFields.ofWord w)

/-- R101: the fields of each command. -/
def Instr.fields : Instr → CmdFields
  | .derivekey => { reserved := 0, dir := 0, op := 0x01 }
  | .xformE => { reserved := 0, dir := 0, op := 0x02 }
  | .xformD => { reserved := 0, dir := 1, op := 0x02 }

/-- The command word of a command (R101). -/
def encode (i : Instr) : Word := i.fields.toWord

/-- R111: the line each pseudo-command stands for. The operand of `ENCBLK` and `DECBLK` has 16 bytes, so `LEN` is 16. -/
def Pseudo.expand : Pseudo → Line
  | .encrypt buf => { command := .xformE, operand := buf }
  | .decrypt buf => { command := .xformD, operand := buf }
  | .encblk blk => { command := .xformE, operand := blk.toList }
  | .decblk blk => { command := .xformD, operand := blk.toList }
  | .rekey kw => { command := .derivekey, operand := kw }

/-- The instruction this decoder reads from the bits of an opcode-table row: `w` has `nbits` bits, bit 0 the least
significant, and every bit above them is 0. A command is one 32-bit word, written to `CMD` whole (R100). -/
def decodeTableWord (nbits w : Nat) : Option Instr :=
  match decode (BitVec.ofNat 32 (w % 2 ^ nbits)) with
  | .ok i => some i
  | .error _ => none

end Sys2Proof
end

