-- ==== Sys2Proof/Machine/Ops.lean ====
section
/-! DEFINITION. The named operations over the operand spaces and the registers (spec 00_scope.md R10, 20_memory.md),
raising an error and completing a command (00_scope.md R11, 60_exceptions.md R247), and taking the host's next move. -/

namespace Sys2Proof.Machine

/-! ## An operand space in its canonical form -/

/-- What an offset that no cell lists holds. -/
def unlistedByte : Byte := 0

/-- The byte at an offset in a list of cells. -/
def readCells : List Host.Cell → Nat → Byte
  | [], _ => unlistedByte
  | (a, v) :: rest, off => if a = off then v else readCells rest off

/-- The cells with one byte changed, in canonical form: a cell is dropped when its byte becomes what an unlisted
offset holds. -/
def writeCells : List Host.Cell → Nat → Byte → List Host.Cell
  | [], off, v => if v = unlistedByte then [] else [(off, v)]
  | (a, u) :: rest, off, v =>
    if off < a then (if v = unlistedByte then (a, u) :: rest else (off, v) :: (a, u) :: rest)
    else if off = a then (if v = unlistedByte then rest else (off, v) :: rest)
    else (a, u) :: writeCells rest off v

/-- The cells of a byte sequence whose first byte lies at `off`. -/
def cellsFrom (off : Nat) : List Byte → List Host.Cell
  | [] => []
  | v :: rest => if v = unlistedByte then cellsFrom (off + 1) rest else (off, v) :: cellsFrom (off + 1) rest

/-- The canonical form of a space: offsets strictly rising and below `size`, and no cell that holds what an unlisted
offset holds. -/
abbrev Space.wf (sp : Space) : Prop :=
  sp.cells.Pairwise (fun c d => c.1 < d.1) ∧ ∀ c ∈ sp.cells, c.1 < sp.size ∧ c.2 ≠ unlistedByte

/-- The space that holds exactly these bytes, byte `j` at offset `j`. -/
def Space.ofBytes (bytes : List Byte) : Space := { size := bytes.length, cells := cellsFrom 0 bytes }

/-! ## Reading and writing (R10, R72, R74) -/

/-- R10 `MemRead(off, 1)`. Every command checks that its operand is bound before it reads (`operandBound`). -/
def Space.byteAt (sp : Space) (off : Nat) : Byte := readCells sp.cells off

/-- R10 `MemWrite(off, 1, v)`. No byte exists at or above `size`, so nothing is written there. -/
def Space.setByte (sp : Space) (off : Nat) (v : Byte) : Space :=
  if off < sp.size then { sp with cells := writeCells sp.cells off v } else sp

/-- Four bytes as one word, the first most significant (R72, R73). -/
def catBytes (b0 b1 b2 b3 : Byte) : Word := (b0 ++ b1 ++ b2 ++ b3 : BitVec (8 + 8 + 8 + 8))

/-- R72: byte `q` of a word, `v[31 - 8q : 24 - 8q]`, `q` in 0 to 3. -/
def wordByte (v : Word) (q : Nat) : Byte := v.extractLsb' (24 - 8 * q) 8

/-- R10 `MemRead(off, 4)`, big-endian (R72). -/
def Space.wordAt (sp : Space) (off : Nat) : Word :=
  catBytes (sp.byteAt off) (sp.byteAt (off + 1)) (sp.byteAt (off + 2)) (sp.byteAt (off + 3))

/-- R10 `MemWrite(off, 4, v)`, most significant byte at `off`. -/
def Space.setWord (sp : Space) (off : Nat) (v : Word) : Space :=
  (((sp.setByte off (wordByte v 0)).setByte (off + 1) (wordByte v 1)).setByte (off + 2) (wordByte v 2)).setByte
    (off + 3) (wordByte v 3)

/-- R10 `MemRead(off, 16)`: the block at `off` as one integer, its first byte most significant (R72). -/
def Space.blockAt (sp : Space) (off : Nat) : BitVec 128 :=
  (sp.wordAt off ++ sp.wordAt (off + 4) ++ sp.wordAt (off + 8) ++ sp.wordAt (off + 12) : BitVec (32 + 32 + 32 + 32))

/-! ## How a command ends (R11, R247) -/

/-- R11, R247: `raise`. The error's code goes to `STATUS.ERR` and nothing else changes. There is no return from an error
and nothing to restore: the next command runs from the state left here (R248). -/
def raise (e : ErrCode) (s : State) : State := { s with err := e }

/-- R11: a command that ends without a `raise` writes `STATUS.ERR <- 0`. -/
def complete (s : State) : State := { s with err := .none }

/-- R36, U2: no value of `x` survives a command, so the registers hold unspecified contents after it. -/
def retireX (s : State) : State := { s with x := unspecifiedX s.epoch, epoch := s.epoch + 1 }

/-- R37, U2: no value of `k` survives a command, so the registers hold unspecified contents after it. -/
def retireK (s : State) : State := { s with k := unspecifiedK s.epoch, epoch := s.epoch + 1 }

/-! ## The host's next move -/

/-- The host's next move and the machine with that move taken off. -/
def takeMove (s : State) : Option (HostMove × State) :=
  match s.pending with
  | [] => none
  | m :: rest => some (m, { s with pending := rest })

/-- The machine whose host is about to write the word to `CMD` (register 0). -/
def placeCommand (w : Word) (s : State) : State := { s with pending := .writeReg 0 w :: s.pending }

end Sys2Proof.Machine
end

