-- ==== Sys2Proof/Machine/Operands.lean ====
section
/-! DEFINITION. The operand forms of the commands: the length operand, the keyword, a block of the buffer
(spec 20_memory.md R70 to R75, 30_encoding.md R104, R105, R109, 43_buffer_codec.md R202, R203). -/

namespace Sys2Proof.Machine

/-- R109: `LEN` as a byte count. -/
def lenBytes (s : State) : Nat := s.len.toNat

/-- R109: the number of keyword bytes used, `min(LEN, 32)`. -/
def keywordBytes (s : State) : Nat := min (lenBytes s) 32

/-- R109: the number of blocks of a transform, `LEN / 16`. -/
def blockCount (s : State) : Nat := lenBytes s / 16

/-- R70: the operand space of each command. -/
def operandSpace : Instr → SpaceId
  | .derivekey => .keyword
  | .xformE => .buffer
  | .xformD => .buffer

/-- R284 H9, U6: the host has bound every byte the command may access. -/
def operandBound : Instr → State → Bool
  | .derivekey, s => decide (keywordBytes s ≤ s.keyword.size)
  | .xformE, s => decide (lenBytes s ≤ s.buffer.size)
  | .xformD, s => decide (lenBytes s ≤ s.buffer.size)

/-- R105, R130: byte `j` of the keyword, or the zero of the padding at and beyond offset `LEN`. -/
def keywordByte (s : State) (j : Nat) : Byte := if j < lenBytes s then s.keyword.byteAt j else 0x00

/-- R202 on a space: the four words of block `b`, at offsets `16b`, `16b + 4`, `16b + 8`, `16b + 12`. -/
def Space.loadBlock (sp : Space) (b : Nat) : Block :=
  { a := sp.wordAt (16 * b), b := sp.wordAt (16 * b + 4), c := sp.wordAt (16 * b + 8), d := sp.wordAt (16 * b + 12) }

/-- R203 on a space: the four words stored to block `b`. -/
def Space.storeBlock (sp : Space) (b : Nat) (x : Block) : Space :=
  (((sp.setWord (16 * b) x.a).setWord (16 * b + 4) x.b).setWord (16 * b + 8) x.c).setWord (16 * b + 12) x.d

/-- R202 `LDBLK(b)`: load block `b` of the buffer into `x`. -/
def ldblk (b : Nat) (s : State) : State := { s with x := s.buffer.loadBlock b }

/-- R203 `STBLK(b)`: store `x` to block `b` of the buffer. -/
def stblk (b : Nat) (s : State) : State := { s with buffer := s.buffer.storeBlock b s.x }

end Sys2Proof.Machine
end

