-- ==== Sys2Proof/Machine/Flags.lean ====
section
/-! DEFINITION. The status items of the engine and the checks made before a command has any effect
(spec 10_state.md R39, R41, 43_buffer_codec.md R201, 60_exceptions.md R240 to R246). There are no condition codes:
arithmetic wraps silently (R39). -/

namespace Sys2Proof.Machine

/-- R113, R240: the 4-bit code of an outcome. -/
def ErrCode.code : ErrCode → BitVec 4
  | .none => 0
  | .invalidKeyLength => 1
  | .invalidBufferLength => 2
  | .noKey => 3
  | .illegalCommand => 4

/-- R41: the word a read of `STATUS` returns: `ERR` in bits 7:4, `KVALID` in bit 0, every other bit 0. -/
def statusWord (s : State) : Word :=
  ((0 : BitVec 24) ++ s.err.code ++ (0 : BitVec 3) ++ BitVec.ofBool s.kvalid : BitVec (24 + 4 + 3 + 1))

/-- R137, R242: the one check of `DERIVEKEY`. -/
def keyCheck (s : State) : Option ErrCode :=
  if s.params.klenMax < lenBytes s then some .invalidKeyLength else none

/-- R201, R246: the checks of a transform, in their order. -/
def transformCheck (s : State) : Option ErrCode :=
  if s.kvalid = false then some .noKey
  else if lenBytes s % 16 ≠ 0 then some .invalidBufferLength
  else none

/-- The check a command makes before any effect. -/
def commandCheck : Instr → State → Option ErrCode
  | .derivekey, s => keyCheck s
  | .xformE, s => transformCheck s
  | .xformD, s => transformCheck s

/-- How a command is issued: an error that its check finds is raised and nothing else happens (R247); a command whose
operand the host has not bound is refused (U6); otherwise it runs and completes (R11). -/
def issue (i : Instr) (body : State → State) (s : State) : Host.Outcome State Fault Refusal :=
  match commandCheck i s with
  | some e => .next (raise e s)
  | none => if operandBound i s then .next (complete (body s)) else .refused .operandTooShort

end Sys2Proof.Machine
end

