-- ==== Sys2Proof/Machine/BufferCodec.lean ====
section
/-! DEFINITION. BufferCodec: the block loop and the commands `XFORM.E`, `XFORM.D` (spec 43_buffer_codec.md R200 to R212). -/

namespace Sys2Proof.Machine

/-- One iteration of the loop of R204 and R205: `LDBLK(b)`, the block function, `STBLK(b)`. -/
def transformBlock (f : Block → Block) (s : State) (b : Nat) : State :=
  let s1 := ldblk b s
  stblk b { s1 with x := f s1.x }

/-- The loop over a list of block indexes. -/
def transformBlocks (f : Block → Block) (order : List Nat) (s : State) : State := order.foldl (transformBlock f) s

/-- R81, R204, R205: the blocks 0 to `LEN/16 - 1` in ascending order; afterwards `x` holds nothing (R36). -/
def transformBody (f : Block → Block) (s : State) : State :=
  retireX (transformBlocks f (List.range (blockCount s)) s)

/-- R204: what `XFORM.E` does once its checks have passed. -/
def encryptBody (s : State) : State := transformBody (encblk (keyMaterial s)) s

/-- R205: what `XFORM.D` does once its checks have passed. -/
def decryptBody (s : State) : State := transformBody (decblk (keyMaterial s)) s

/-- R204 `XFORM.E`. -/
def execXformE (s : State) : Host.Outcome State Fault Refusal := issue .xformE encryptBody s

/-- R205 `XFORM.D`. -/
def execXformD (s : State) : Host.Outcome State Fault Refusal := issue .xformD decryptBody s

end Sys2Proof.Machine
end

