-- ==== Sys2Proof/Machine/KeySchedule.lean ====
section
/-! DEFINITION. KeySchedule: `NORMALIZE`, `LOADK`, `W`, `KREXTRACT`, `KMEXTRACT`, `EXPAND` and the command `DERIVEKEY`
(spec 40_key_schedule.md R129 to R140). -/

namespace Sys2Proof.Machine

/-- R130 `NORMALIZE`: the first 32 bytes of the keyword, zero-padded on the right. -/
def normalize (s : State) : State := { s with kw := Vector.ofFn fun j => keywordByte s j }

/-- R131: the eight words of a normalized keyword, big-endian (R73). -/
def keyWords (kw : Vector Byte 32) : KeyRegs :=
  { a := catBytes kw[0] kw[1] kw[2] kw[3]
    b := catBytes kw[4] kw[5] kw[6] kw[7]
    c := catBytes kw[8] kw[9] kw[10] kw[11]
    d := catBytes kw[12] kw[13] kw[14] kw[15]
    e := catBytes kw[16] kw[17] kw[18] kw[19]
    f := catBytes kw[20] kw[21] kw[22] kw[23]
    g := catBytes kw[24] kw[25] kw[26] kw[27]
    h := catBytes kw[28] kw[29] kw[30] kw[31] }

/-- R131 `LOADK`. -/
def loadk (s : State) : State := { s with k := keyWords s.kw }

/-- R133 `W(i)` on the eight working words: eight statements, each seeing the one before. -/
def octave (i : Nat) (k : KeyRegs) : KeyRegs :=
  let k := { k with g := xor32 k.g (f1 k.h (Config.tr 0 i) (Config.tm 0 i)) }
  let k := { k with f := xor32 k.f (f2 k.g (Config.tr 1 i) (Config.tm 1 i)) }
  let k := { k with e := xor32 k.e (f3 k.f (Config.tr 2 i) (Config.tm 2 i)) }
  let k := { k with d := xor32 k.d (f1 k.e (Config.tr 3 i) (Config.tm 3 i)) }
  let k := { k with c := xor32 k.c (f2 k.d (Config.tr 4 i) (Config.tm 4 i)) }
  let k := { k with b := xor32 k.b (f3 k.c (Config.tr 5 i) (Config.tm 5 i)) }
  let k := { k with a := xor32 k.a (f1 k.b (Config.tr 6 i) (Config.tm 6 i)) }
  { k with h := xor32 k.h (f2 k.a (Config.tr 7 i) (Config.tm 7 i)) }

/-- R133 `W(i)` on the machine. -/
def stepW (i : Nat) (s : State) : State := { s with k := octave i s.k }

/-- R134 `KREXTRACT(i)`: the rotation amounts of quad-round `i`, from `A`, `C`, `E`, `G`. -/
def krExtract (i : Fin 12) (s : State) : State :=
  { s with
    kr := (((s.kr.set (4 * i.val) (low5 s.k.a)).set (4 * i.val + 1) (low5 s.k.c)).set (4 * i.val + 2) (low5 s.k.e)).set
      (4 * i.val + 3) (low5 s.k.g) }

/-- R135 `KMEXTRACT(i)`: the masking words of quad-round `i`, `H`, `F`, `D`, `B`. -/
def kmExtract (i : Fin 12) (s : State) : State :=
  { s with
    km := (((s.km.set (4 * i.val) s.k.h).set (4 * i.val + 1) s.k.f).set (4 * i.val + 2) s.k.d).set (4 * i.val + 3) s.k.b }

/-- R136: one iteration of `EXPAND`: two octaves, then the four pairs of one quad-round. -/
def expandStep (s : State) (i : Fin 12) : State :=
  kmExtract i (krExtract i (stepW (2 * i.val + 1) (stepW (2 * i.val) s)))

/-- The quad-round indexes 0 to 11, ascending. -/
def quadIndexes : List (Fin 12) := [0, 1, 2, 3, 4, 5, 6, 7, 8, 9, 10, 11]

/-- R136 `EXPAND`. -/
def expand (s : State) : State := quadIndexes.foldl expandStep s

/-- R34, R137 `KVALID <- 1`. -/
def setKvalid (s : State) : State := { s with kvalid := true }

/-- R137: what `DERIVEKEY` does once its check has passed, before `STATUS.ERR <- 0`. -/
def deriveBody (s : State) : State := retireK (setKvalid (expand (loadk (normalize s))))

/-- R137 `DERIVEKEY`. -/
def execDerivekey (s : State) : Host.Outcome State Fault Refusal := issue .derivekey deriveBody s

end Sys2Proof.Machine
end

