-- ==== Sys2Proof/Machine/Dispatch.lean ====
section
/-! DEFINITION. One arm per command (spec 30_encoding.md R101). -/

namespace Sys2Proof.Machine

/-- The meaning of a legal command word, issued by a write to `CMD` (R12, R40). -/
def exec (i : Instr) (s : State) : Host.Outcome State Fault Refusal :=
  match i with
  | .derivekey => Sys2Proof.Machine.execDerivekey s
  | .xformE => Sys2Proof.Machine.execXformE s
  | .xformD => Sys2Proof.Machine.execXformD s

end Sys2Proof.Machine
end

