-- ==== Sys2Proof/Machine/HostPort.lean ====
section
/-! DEFINITION. The host's side of the interface: the three registers, binding an operand, and reset
(spec 10_state.md R40 to R43, 20_memory.md R70, 60_exceptions.md R244, 70_reset_and_hazards.md R280, R281). -/

namespace Sys2Proof.Machine

/-- R43: the number of `CMD`. -/
def cmdReg : Nat := 0

/-- R43: the number of `STATUS`. -/
def statusReg : Nat := 1

/-- R43: the number of `LEN`. -/
def lenReg : Nat := 2

/-- R42: a write of `LEN` keeps the low `LENW` bits. -/
def writeLen (v : Word) (s : State) : State := { s with len := BitVec.ofNat 32 (v.toNat % 2 ^ s.params.lenw) }

/-- R41, R42, R43: a register write that issues no command: `LEN` takes the value, a write of `STATUS` is ignored, and
a write of any other number is no access to this engine. -/
def writeRegister (reg : Nat) (v : Word) (s : State) : State := if reg = lenReg then writeLen v s else s

/-- R40 to R43: what a register read returns; `none` for a number that is no register of this engine. -/
def readRegister (reg : Nat) (s : State) : Option Word :=
  if reg = cmdReg then some 0
  else if reg = statusReg then some (statusWord s)
  else if reg = lenReg then some s.len
  else none

/-- R40 to R42, R78: a register read has no side effect on the engine; the host has the value. A read of a number that
is no register of this engine is no access to it (R43). -/
def hostRead (reg : Nat) (s : State) : State :=
  match readRegister reg s with
  | some v => { s with readback := some v }
  | none => s

/-- R70, R110: the host binds a byte sequence as an operand space. -/
def bindOperand (space : SpaceId) (bytes : List Byte) (s : State) : State :=
  match space with
  | .keyword => { s with keyword := Space.ofBytes bytes }
  | .buffer => { s with buffer := Space.ofBytes bytes }

/-- R280: the engine's state becomes the reset state; the operand spaces are the host's and keep their bytes. -/
def engineReset (s : State) : State :=
  { s with
    kw := unspecifiedKw s.epoch
    km := unspecifiedKm s.epoch
    kr := unspecifiedKr s.epoch
    kvalid := false
    err := .none
    len := 0
    x := unspecifiedX s.epoch
    k := unspecifiedK s.epoch
    epoch := s.epoch + 1 }

/-- R244: a write to `CMD` of an illegal word. -/
def issueIllegal (s : State) : State := raise .illegalCommand s

/-- R281, U3: every byte the transform was going to write holds any value. -/
def abortBuffer (s : State) : State :=
  { s with
    buffer := (List.range (lenBytes s)).foldl (fun sp off => sp.setByte off (Config.abortedByte s.epoch off)) s.buffer }

/-- R281: what a command cut short by a reset leaves in the host's memory, before the engine is reset. The KEYWORD space
is never written, and a command that raises an error writes nothing. -/
def abortEffect (i : Instr) (s : State) : State :=
  match i with
  | .derivekey => s
  | .xformE => abortBuffer s
  | .xformD => abortBuffer s

/-- R281: the word is written to `CMD` and a reset arrives while the command runs. -/
def resetDuring (w : Word) (s : State) : Host.Outcome State Fault Refusal :=
  match decode w with
  | .error _ => .next (engineReset s)
  | .ok i =>
    match commandCheck i s with
    | some _ => .next (engineReset s)
    | none => if operandBound i s then .next (engineReset (abortEffect i s)) else .refused .operandTooShort

/-- R110: the moves of one program line: bind the operand, write `LEN`, write the command word to `CMD`, read `STATUS`. -/
def lineMoves (l : Line) : List HostMove :=
  [.bindOperand (operandSpace l.command) l.operand, .writeReg lenReg (BitVec.ofNat 32 l.operand.length),
    .writeReg cmdReg (encode l.command), .readReg statusReg]

/-- R111: the moves of a pseudo-command are those of the line it stands for. -/
def pseudoMoves (p : Pseudo) : List HostMove := lineMoves p.expand

/-- The word a move writes to `CMD`, if it does. -/
def commandWord : HostMove → Option Word
  | .writeReg reg v => if reg = cmdReg then some v else none
  | .readReg _ => none
  | .bindOperand _ _ => none
  | .reset => none
  | .resetDuring _ => none

/-- A move of the host that issues no command. -/
def hostMove (m : HostMove) (s : State) : Host.Outcome State Fault Refusal :=
  match m with
  | .writeReg reg v => .next (writeRegister reg v s)
  | .readReg reg => .next (hostRead reg s)
  | .bindOperand space bytes => .next (bindOperand space bytes s)
  | .reset => .next (engineReset s)
  | .resetDuring w => resetDuring w s

end Sys2Proof.Machine
end

