-- ==== Sys2Proof/Machine/Step.lean ====
section
/-! DEFINITION. One step of the machine is one move of the host; a write to `CMD` runs one whole command
(spec 00_scope.md R12, 20_memory.md R82). -/

namespace Sys2Proof.Machine

/-- The host's next move is taken. A write to `CMD` of a legal word runs that command, of an illegal word raises
IllegalCommand (R102); with no move the machine has no step (R12). -/
def step (s : State) : Host.Outcome State Fault Refusal :=
  match takeMove s with
  | none => .fault .idle
  | some (m, s1) =>
    match commandWord m with
    | none => hostMove m s1
    | some w =>
      match decode w with
      | .ok i => exec i s1
      | .error _ => .next (issueIllegal s1)

/-- The machine whose next step runs the command with these bits: the host is about to write them to `CMD`, and nothing
else is changed (R85: a command word is taken from the `CMD` write itself). -/
def State.withFetchWord (s : State) (nbits w : Nat) : State := placeCommand (BitVec.ofNat 32 (w % 2 ^ nbits)) s

end Sys2Proof.Machine
end

