-- ==== Sys2Proof/Safety.lean ====
section
/-! DEFINITION. The terms the claims about the engine are stated in: what key material a keyword gives, the invariants
of the machine, the 48 rounds laid flat (spec 42_block_transform.md R186), and when a command completes. -/

namespace Sys2Proof.Machine

/-- R136: the eight working words after the first `n` octaves `W(0)` to `W(n - 1)`. -/
def octaves : Nat → KeyRegs → KeyRegs
  | 0, k => k
  | n + 1, k => octave n (octaves n k)

/-- R134, R135, R136: the key material is the expansion of this normalized keyword: quad-round `i` has the four pairs
extracted from the working words after octave `W(2i + 1)`. -/
def IsExpansion (kw : Vector Byte 32) (m : KeyMaterial) : Prop :=
  ∀ i : Fin 12,
    let k := octaves (2 * i.val + 2) (keyWords kw)
    (m.mask i 0 = k.h ∧ m.mask i 1 = k.f ∧ m.mask i 2 = k.d ∧ m.mask i 3 = k.b) ∧
    (m.rot i 0 = low5 k.a ∧ m.rot i 1 = low5 k.c ∧ m.rot i 2 = low5 k.e ∧ m.rot i 3 = low5 k.g)

/-- R34: `KVALID` is 1 only when `KM` and `KR` hold the expansion of `KW`. -/
def KeyConsistent (s : State) : Prop := s.kvalid = true → IsExpansion s.kw (keyMaterial s)

/-- Both operand spaces are in their canonical form. -/
abbrev SpacesCanonical (s : State) : Prop := s.keyword.wf ∧ s.buffer.wf

/-- R42: `LEN` holds a value of `LENW` bits, and the parameters lie in their ranges (R7). -/
abbrev LenInRange (s : State) : Prop := s.params.wf ∧ s.len.toNat < 2 ^ s.params.lenw

/-- R201, R284 H9: the conditions under which a transform runs: a key is loaded, the length is a multiple of 16, and
the host has bound that many bytes. -/
abbrev TransformReady (s : State) : Prop :=
  s.kvalid = true ∧ lenBytes s % 16 = 0 ∧ lenBytes s ≤ s.buffer.size

/-- R137, R284 H9: the conditions under which `DERIVEKEY` runs: the length is one the engine accepts, and the host has
bound the bytes that are read. -/
abbrev DeriveReady (s : State) : Prop :=
  lenBytes s ≤ s.params.klenMax ∧ min (lenBytes s) 32 ≤ s.keyword.size

/-- An offset of the BUFFER space that a transform does not store to: it lies outside the 16 bytes of every block that
`storeBlock` is applied to. -/
abbrev OutsideBlocks (s : State) (off : Nat) : Prop := ∀ b, b < blockCount s → off < 16 * b ∨ 16 * b + 16 ≤ off

/-- R186: which round function a round uses. -/
inductive RoundFn where
  | f1
  | f2
  | f3
  deriving DecidableEq, Repr

/-- R186: one row of the table: the function, the source and the destination register of `x`, and the key index. -/
structure RoundRow where
  fn : RoundFn
  src : Fin 4
  dst : Fin 4
  key : Fin 48
  deriving DecidableEq, Repr

/-- R186: the table of the 48 rounds, in the order encryption runs them. -/
def roundRows : List RoundRow :=
  (([0, 1, 2, 3, 4, 5] : List (Fin 6)).flatMap fun i =>
    [{ fn := .f1, src := 3, dst := 2, key := ⟨4 * i.val, by omega⟩ },
      { fn := .f2, src := 2, dst := 1, key := ⟨4 * i.val + 1, by omega⟩ },
      { fn := .f3, src := 1, dst := 0, key := ⟨4 * i.val + 2, by omega⟩ },
      { fn := .f1, src := 0, dst := 3, key := ⟨4 * i.val + 3, by omega⟩ }]) ++
  (([0, 1, 2, 3, 4, 5] : List (Fin 6)).flatMap fun i =>
    [{ fn := .f1, src := 0, dst := 3, key := ⟨4 * (i.val + 6) + 3, by omega⟩ },
      { fn := .f3, src := 1, dst := 0, key := ⟨4 * (i.val + 6) + 2, by omega⟩ },
      { fn := .f2, src := 2, dst := 1, key := ⟨4 * (i.val + 6) + 1, by omega⟩ },
      { fn := .f1, src := 3, dst := 2, key := ⟨4 * (i.val + 6), by omega⟩ }])

/-- `x[i]` by index (R36). -/
def Block.get (x : Block) : Fin 4 → Word
  | 0 => x.a
  | 1 => x.b
  | 2 => x.c
  | 3 => x.d

/-- `x[i] <- v` by index (R36). -/
def Block.set (x : Block) (i : Fin 4) (v : Word) : Block :=
  match i with
  | 0 => { x with a := v }
  | 1 => { x with b := v }
  | 2 => { x with c := v }
  | 3 => { x with d := v }

/-- The function a row names. -/
def RoundFn.apply : RoundFn → Word → Rot → Word → Word
  | .f1 => Machine.f1
  | .f2 => Machine.f2
  | .f3 => Machine.f3

/-- R186: `x[dst] <- xor(x[dst], F(x[src], KR[key], KM[key]))`. -/
def applyRow (m : KeyMaterial) (x : Block) (r : RoundRow) : Block :=
  x.set r.dst (xor32 (x.get r.dst) (r.fn.apply (x.get r.src) m.kr[r.key] m.km[r.key]))

/-- A block printed as one 128-bit integer, its first byte most significant (R8, R72). -/
def blockOfBits (v : BitVec 128) : Block :=
  { a := v.extractLsb' 96 32, b := v.extractLsb' 64 32, c := v.extractLsb' 32 32, d := v.extractLsb' 0 32 }

/-- R72: the block of these 16 bytes, the first byte most significant in each word. -/
def blockOfBytes (v : Vector Byte 16) : Block :=
  { a := catBytes v[0] v[1] v[2] v[3]
    b := catBytes v[4] v[5] v[6] v[7]
    c := catBytes v[8] v[9] v[10] v[11]
    d := catBytes v[12] v[13] v[14] v[15] }

/-- The machine's normalized keyword is this 256-bit key, its first byte most significant (R8, R130). -/
abbrev KeywordIs (s : State) (key : BitVec 256) : Prop := ∀ j, j < 32 → keywordByte s j = key.extractLsb' (248 - 8 * j) 8

/-- R233: the exclusive or of all entries of a table. -/
def tableXor (t : Vector (Vector Word 8) 32) : Word := (t.toList.map fun row => row.toList.foldl xor32 0).foldl xor32 0

/-- R233: the sum of all entries of a table mod 2^32. -/
def tableSum (t : Vector (Vector Word 8) 32) : Word := (t.toList.map fun row => row.toList.foldl add32 0).foldl add32 0

end Sys2Proof.Machine
end

