-- ==== Sys2Proof/Certificates/Slice0/Obligations.lean ====
section
/-! DEFINITION. The statements about the engine, each from the rules of the spec. A statement that rests on a choice of the
model names the log entry. -/

open Sys2Proof Sys2Proof.Machine

/-! ## Decoding and issuing a command (30_encoding.md) -/

/-- R101: a command word is legal if and only if it equals one of the three words, and each word is its own command. -/
def Obligations.LegalWordsAreTheThree : Prop :=
  ∀ w : Word,
    (decode w = .ok .derivekey ↔ w = 0x00000001) ∧
    (decode w = .ok .xformE ↔ w = 0x00000002) ∧
    (decode w = .ok .xformD ↔ w = 0x00000102)

/-- R100, R101: the fields of every command are well formed and its word decodes to it. -/
def Obligations.EncodeThenDecodeAgree : Prop :=
  ∀ i : Instr, i.fields.wf = true ∧ decode (encode i) = .ok i

/-- The three words of R101 and some illegal words of vector V50, written out from the spec. -/
def Obligations.PrintedWordsDecode : Prop :=
  decode 0x00000001 = .ok .derivekey ∧ decode 0x00000002 = .ok .xformE ∧ decode 0x00000102 = .ok .xformD ∧
  decode 0x00000000 = .error .unknownOp ∧ decode 0x00000003 = .error .unknownOp ∧
  decode 0x00000101 = .error .dirOnDerivekey ∧ decode 0x00010002 = .error .reservedBits ∧
  decode 0x80000001 = .error .reservedBits

/-- R102, R244: a write to `CMD` of any other word raises IllegalCommand and does nothing else. -/
def Obligations.OtherWordsRaiseIllegalCommand : Prop :=
  ∀ (s : State) (w : Word) (rest : List HostMove),
    s.pending = .writeReg 0 w :: rest → w ≠ 0x00000001 → w ≠ 0x00000002 → w ≠ 0x00000102 →
      step s = .next { s with pending := rest, err := .illegalCommand }

/-- R12, R40: when the host's next move writes a legal word to `CMD`, the step is that command's meaning on the machine
with the move taken off. The step adds nothing around it. -/
def Obligations.StepRunsTheDecodedCommand : Prop :=
  ∀ (s : State) (w : Word) (rest : List HostMove) (i : Instr),
    s.pending = .writeReg 0 w :: rest → decode w = .ok i → step s = exec i { s with pending := rest }

/-- R12: with no command the engine has no step. That the model says so by the fault `idle` when the host's list of moves is
empty is its choice (DESIGN CHOICE, log entry 5). -/
def Obligations.NoMoveNoStep : Prop := ∀ s : State, s.pending = [] → step s = .fault .idle

/-- R111: the command and the operand each pseudo-command of the engine stands for, and the moves of the two on one block:
16 bytes bound as the BUFFER space, `LEN` written 16, the word of `XFORM.E` or `XFORM.D` written to `CMD`, `STATUS` read. -/
def Obligations.PseudoCommandsExpand : Prop :=
  (∀ bytes : List Byte,
    Pseudo.expand (.encrypt bytes) = { command := .xformE, operand := bytes } ∧
    Pseudo.expand (.decrypt bytes) = { command := .xformD, operand := bytes } ∧
    Pseudo.expand (.rekey bytes) = { command := .derivekey, operand := bytes }) ∧
  ∀ blk : Vector Byte 16, blk.toList.length = 16 ∧
    Pseudo.expand (.encblk blk) = { command := .xformE, operand := blk.toList } ∧
    Pseudo.expand (.decblk blk) = { command := .xformD, operand := blk.toList } ∧
    pseudoMoves (.encblk blk) =
      [.bindOperand .buffer blk.toList, .writeReg 2 16, .writeReg 0 0x00000002, .readReg 1] ∧
    pseudoMoves (.decblk blk) =
      [.bindOperand .buffer blk.toList, .writeReg 2 16, .writeReg 0 0x00000102, .readReg 1]

/-- R111, which the spec infers from R204 and R205: with a key loaded, the four steps of `ENCBLK blk` leave in the BUFFER
space exactly the 16 bytes of one block, the block function applied to the operand, and the host has read `STATUS` with
`ERR` 0; and `DECBLK blk` likewise. The key material is as it was. That a line's operand is bound by a move of its own is
the model's choice (log entries 5 and 7). -/
def Obligations.BlockPseudoCommandsAreBlockFunctions : Prop :=
  ∀ (s : State) (p : Pseudo) (blk : Vector Byte 16) (f : Block → Block) (rest : List HostMove),
    s.params.wf → s.kvalid = true → s.pending = pseudoMoves p ++ rest →
    (p = .encblk blk ∧ f = encblk (keyMaterial s)) ∨ (p = .decblk blk ∧ f = decblk (keyMaterial s)) →
      ∃ t1 t2 t3 t4, step s = .next t1 ∧ step t1 = .next t2 ∧ step t2 = .next t3 ∧ step t3 = .next t4 ∧
        t2.buffer = Space.ofBytes blk.toList ∧ t2.len = 16 ∧
        t4.buffer.size = 16 ∧ t4.buffer.loadBlock 0 = f (blockOfBytes blk) ∧ t4.err = .none ∧
        t4.readback = some 0x00000001 ∧ keyMaterial t4 = keyMaterial s ∧ t4.keyword = s.keyword ∧ t4.pending = rest

/-! ## The registers the host sees (10_state.md) -/

/-- R42: a write of `LEN` keeps the low `LENW` bits and changes nothing else; a read returns it zero-extended and has no
side effect; no command writes it; it is 0 after reset. -/
def Obligations.LenRegister : Prop :=
  (∀ (s : State) (v : Word) (rest : List HostMove), s.pending = .writeReg 2 v :: rest →
    ∃ n : Word, n.toNat = v.toNat % 2 ^ s.params.lenw ∧ step s = .next { s with pending := rest, len := n }) ∧
  (∀ (s : State) (rest : List HostMove), s.pending = .readReg 2 :: rest →
    step s = .next { s with pending := rest, readback := some s.len }) ∧
  (∀ (i : Instr) (s t : State), exec i s = .next t → t.len = s.len) ∧
  State.reset.len = 0

/-- R41, R113: the fields of `STATUS`, the codes of `ERR`, a read without side effect, a write that is ignored, `ERR`
overwritten by every command, and the reset value. -/
def Obligations.StatusRegister : Prop :=
  (∀ s : State, (statusWord s).getLsbD 0 = s.kvalid ∧ (statusWord s).extractLsb' 1 3 = 0 ∧
    (statusWord s).extractLsb' 4 4 = s.err.code ∧ (statusWord s).extractLsb' 8 24 = 0) ∧
  ([ErrCode.none, .invalidKeyLength, .invalidBufferLength, .noKey, .illegalCommand].map ErrCode.code = [0, 1, 2, 3, 4]) ∧
  (∀ (s : State) (rest : List HostMove), s.pending = .readReg 1 :: rest →
    step s = .next { s with pending := rest, readback := some (statusWord s) }) ∧
  (∀ (s : State) (v : Word) (rest : List HostMove), s.pending = .writeReg 1 v :: rest →
    step s = .next { s with pending := rest }) ∧
  (∀ (i : Instr) (s t : State), exec i s = .next t →
    t.err = match commandCheck i s with | some e => e | none => .none) ∧
  statusWord State.reset = 0

/-- R40: a read of `CMD` returns 0 and has no effect on the engine. -/
def Obligations.CmdReadsAsZero : Prop :=
  ∀ (s : State) (rest : List HostMove), s.pending = .readReg 0 :: rest →
    step s = .next { s with pending := rest, readback := some 0 }

/-- R43: an access to any other register number is not an access to this engine. That such a move leaves the machine
as it is, and the host's last value too, is the model's reading (log entry 8). -/
def Obligations.OtherNumbersAreNoRegister : Prop :=
  ∀ (s : State) (reg : Nat) (v : Word) (rest : List HostMove), 2 < reg →
    (s.pending = .writeReg reg v :: rest ∨ s.pending = .readReg reg :: rest) → step s = .next { s with pending := rest }

/-- R78: no read of `CMD`, `STATUS` or `LEN` has a side effect: only the value the host holds and its list of moves change.
A number above 2 is no register of this engine (R43): that a read of one leaves the machine as it is too is the model's
reading (DEDUCED, log entry 8). -/
def Obligations.ReadsHaveNoSideEffect : Prop :=
  ∀ (s : State) (reg : Nat) (rest : List HostMove), s.pending = .readReg reg :: rest →
    ∃ r, step s = .next { s with pending := rest, readback := r }

/-- R31, R32, R252: the host cannot read the key state `KW`, `KM`, `KR` through any register. R36, R37: nor the working
registers `x` and `k`. -/
def Obligations.KeyStateUnreadable : Prop :=
  ∀ (s : State) (kw : Vector Byte 32) (km : Vector Word 48) (kr : Vector Rot 48) (x : Block) (k : KeyRegs) (reg : Nat),
    readRegister reg { s with kw := kw, km := km, kr := kr, x := x, k := k } = readRegister reg s

/-- The model's form of the parameter `BIND`, which R70 leaves open (DESIGN CHOICE, log entry 7): binding is a move of the
host. After it that operand space holds exactly those bytes, by offset from 0 as R70 addresses them, in the model's
canonical form, and nothing else has changed, the other space included. -/
def Obligations.BindOperandHoldsTheBytes : Prop :=
  ∀ (s : State) (id : SpaceId) (bytes : List Byte) (rest : List HostMove),
    s.pending = .bindOperand id bytes :: rest →
      ∃ sp : Space,
        step s = .next (match id with
          | .keyword => { s with pending := rest, keyword := sp }
          | .buffer => { s with pending := rest, buffer := sp }) ∧
        sp.size = bytes.length ∧ sp.wf ∧ ∀ (j : Nat) (h : j < bytes.length), sp.byteAt j = bytes[j]

/-! ## Reset (10_state.md section 10, 70_reset_and_hazards.md section 1) -/

/-- R47, R280: the values the spec gives for reset. -/
def Obligations.ResetValues : Prop :=
  State.reset.kvalid = false ∧ State.reset.err = .none ∧ State.reset.len = 0

/-- R280: a reset from any state gives `KVALID`, `ERR` and `LEN` 0. R280 says nothing of the host's side: that both operand
spaces, the host's other moves and the parameters are kept is the model's reading (DEDUCED, log entry 12), from R45 and
R47, by which the spaces are not the engine's. -/
def Obligations.ResetMoveDestroysTheInstance : Prop :=
  ∀ (s : State) (rest : List HostMove), s.pending = .reset :: rest →
    ∃ t, step s = .next t ∧ t.kvalid = false ∧ t.err = .none ∧ t.len = 0 ∧ t.keyword = s.keyword ∧
      t.buffer = s.buffer ∧ t.pending = rest ∧ t.params = s.params

/-- R281: a reset that arrives while a command runs resets the engine, leaves the KEYWORD space intact, leaves the
BUFFER space intact when the command was `DERIVEKEY`, and otherwise touches no byte at or
beyond `LEN`. R281 lets a model leave this event out: that the model has it as a move is its choice (DESIGN CHOICE, log
entries 4 and 5). -/
def Obligations.ResetDuringACommand : Prop :=
  ∀ (s : State) (w : Word) (i : Instr) (rest : List HostMove), SpacesCanonical s →
    s.pending = .resetDuring w :: rest → decode w = .ok i → commandCheck i s = none → operandBound i s = true →
      ∃ t, step s = .next t ∧ t.kvalid = false ∧ t.err = .none ∧ t.len = 0 ∧ t.keyword = s.keyword ∧
        t.buffer.size = s.buffer.size ∧ (i = .derivekey → t.buffer = s.buffer) ∧
        ∀ off, lenBytes s ≤ off → t.buffer.byteAt off = s.buffer.byteAt off

/-! ## The round functions and the constant tables (41_round_functions.md, 44_constant_tables.md) -/

/-- R161: the rotation as the rule writes it, bit by bit, by 0, and undone by the complementary amount. -/
def Obligations.RotationMovesEveryBit : Prop :=
  ∀ (v : Word) (n : Rot),
    rotl32 v 0 = v ∧
    (n ≠ 0 → (rotl32 v n).toNat = (v.toNat * 2 ^ n.toNat) % 2 ^ 32 + v.toNat / 2 ^ (32 - n.toNat)) ∧
    (∀ b, b < 32 → (rotl32 v n).getLsbD ((b + n.toNat) % 32) = v.getLsbD b) ∧
    rotl32 (rotl32 v n) (BitVec.ofNat 5 ((32 - n.toNat) % 32)) = v

/-- R163, R164, R165: the three functions with every addition and subtraction taken mod 2^32 on unsigned integers, and
the worked examples of the rules. -/
def Obligations.RoundFunctionsWrapSilently : Prop :=
  (∀ (d : Word) (kr : Rot) (km : Word),
    (let t := sboxsub (rotl32 (BitVec.ofNat 32 (km.toNat + d.toNat)) kr)
     (f1 d kr km).toNat = ((t.s1 ^^^ t.s2).toNat + (2 ^ 32 - t.s3.toNat) + t.s4.toNat) % 2 ^ 32) ∧
    (let t := sboxsub (rotl32 (km ^^^ d) kr)
     f2 d kr km = BitVec.ofNat 32 (t.s1.toNat + (2 ^ 32 - t.s2.toNat) + t.s3.toNat) ^^^ t.s4) ∧
    (let t := sboxsub (rotl32 (BitVec.ofNat 32 (km.toNat + (2 ^ 32 - d.toNat))) kr)
     (f3 d kr km).toNat = ((BitVec.ofNat 32 (t.s1.toNat + t.s2.toNat) ^^^ t.s3).toNat + (2 ^ 32 - t.s4.toNat)) % 2 ^ 32)) ∧
  f1 0x01234567 5 0x89abcdef = 0xaaacf0fe ∧ f2 0x01234567 5 0x89abcdef = 0x225ea0c0 ∧
  f3 0x01234567 5 0x89abcdef = 0xcd69c31a ∧ f1 0 0 0 = 0x3f9e9220 ∧ f2 0 0 0 = 0x0279f6a0 ∧ f3 0 0 0 = 0x40418f08

/-- R164, R165, corner case: a mask equal to the data gives index 0 whatever the rotation, in `F2` and in `F3`. -/
def Obligations.EqualMaskAndDataGiveIndexZero : Prop :=
  ∀ (d : Word) (kr : Rot), f2 d kr d = 0x0279f6a0 ∧ f3 d kr d = 0x40418f08

/-- R233, which the spec infers by computing from the tables it prints in R230 (the tables themselves are the spec's from
general knowledge, log entry 13): the exclusive or and the sum mod 2^32 of the 256 entries of each S-box. -/
def Obligations.SboxChecksums : Prop :=
  (tableXor Config.s1 = 0 ∧ tableXor Config.s2 = 0 ∧ tableXor Config.s3 = 0 ∧ tableXor Config.s4 = 0) ∧
  (tableSum Config.s1 = 0x25345d58 ∧ tableSum Config.s2 = 0x4c663718 ∧ tableSum Config.s3 = 0x27fcd808 ∧
    tableSum Config.s4 = 0xd1762df8)

/-- R231, R232: the schedule constants are the running sums the rules write, octave by octave and within an octave by
`j`, and the rotation constants repeat every 4 octaves. -/
def Obligations.ScheduleConstantsAreRunningSums : Prop :=
  Config.tm 0 0 = 0x5A827999 ∧ (Config.tr 0 0).toNat = 19 ∧
  ∀ i j : Nat,
    Config.tm (j + 1) i = Config.tm j i + 0x6ED9EBA1 ∧ Config.tm 0 (i + 1) = Config.tm 7 i + 0x6ED9EBA1 ∧
    (Config.tr (j + 1) i).toNat = ((Config.tr j i).toNat + 17) % 32 ∧
    (Config.tr 0 (i + 1)).toNat = ((Config.tr 7 i).toNat + 17) % 32 ∧ Config.tr j (i + 4) = Config.tr j i

/-! ## DERIVEKEY (40_key_schedule.md) -/

/-- R131: the eight working words are the normalized keyword, four bytes a word, the first most significant. -/
def Obligations.KeywordLoadsBigEndian : Prop :=
  ∀ kw : Vector Byte 32,
    let word := fun b0 b1 b2 b3 : Byte => b0.toNat * 2 ^ 24 + b1.toNat * 2 ^ 16 + b2.toNat * 2 ^ 8 + b3.toNat
    let k := keyWords kw
    k.a.toNat = word kw[0] kw[1] kw[2] kw[3] ∧ k.b.toNat = word kw[4] kw[5] kw[6] kw[7] ∧
    k.c.toNat = word kw[8] kw[9] kw[10] kw[11] ∧ k.d.toNat = word kw[12] kw[13] kw[14] kw[15] ∧
    k.e.toNat = word kw[16] kw[17] kw[18] kw[19] ∧ k.f.toNat = word kw[20] kw[21] kw[22] kw[23] ∧
    k.g.toNat = word kw[24] kw[25] kw[26] kw[27] ∧ k.h.toNat = word kw[28] kw[29] kw[30] kw[31]

/-- R133: every octave is an invertible map of the eight working words. -/
def Obligations.OctaveIsInvertible : Prop := ∀ i : Nat, Function.Bijective (octave i)

/-- R130, R134, R135, R136, R137: `DERIVEKEY` completes on every state it is ready on. It leaves the normalized keyword in
`KW`, the expansion of it in `KM` and `KR`, `KVALID` 1 and `ERR` 0, and changes neither operand space nor `LEN`. -/
def Obligations.DerivekeyCompletes : Prop :=
  ∀ s : State, DeriveReady s →
    ∃ t, exec .derivekey s = .next t ∧
      (∀ j : Fin 32, t.kw[j.val] = if j.val < lenBytes s then s.keyword.byteAt j.val else 0) ∧
      IsExpansion t.kw (keyMaterial t) ∧ t.kvalid = true ∧ t.err = .none ∧
      t.keyword = s.keyword ∧ t.buffer = s.buffer ∧ t.len = s.len ∧ t.x = s.x ∧ t.pending = s.pending ∧
      t.readback = s.readback ∧ t.params = s.params

/-- R35, R71, R137: the frame of `DERIVEKEY`. Whenever it answers a next state it has changed neither operand space, nor
`LEN`, nor `x`, nor the host's side; when it raised an error it has changed nothing but `ERR`. -/
def Obligations.DerivekeyFrame : Prop :=
  ∀ s t : State, exec .derivekey s = .next t →
    t.keyword = s.keyword ∧ t.buffer = s.buffer ∧ t.len = s.len ∧ t.x = s.x ∧ t.pending = s.pending ∧
    t.readback = s.readback ∧ t.params = s.params ∧
    (t.err ≠ .none → t.kw = s.kw ∧ t.km = s.km ∧ t.kr = s.kr ∧ t.kvalid = s.kvalid ∧ t.k = s.k)

/-- R242: a keyword longer than `KLEN_MAX` raises InvalidKeyLength and changes nothing else; at the default parameters no
value of `LEN` does. -/
def Obligations.LongKeywordRaisesInvalidKeyLength : Prop :=
  (∀ s : State, s.params.klenMax < lenBytes s → exec .derivekey s = .next { s with err := .invalidKeyLength }) ∧
  (∀ s : State, s.params = Params.default → commandCheck .derivekey s = none)

/-- R139, which the spec infers from R137: keywords that normalize alike give the same `KW`, `KM` and `KR`, whatever else
the two machines hold. -/
def Obligations.EquivalentKeywordsGiveOneKey : Prop :=
  ∀ s1 s2 : State, DeriveReady s1 → DeriveReady s2 → (∀ j, j < 32 → keywordByte s1 j = keywordByte s2 j) →
    ∃ t1 t2, exec .derivekey s1 = .next t1 ∧ exec .derivekey s2 = .next t2 ∧
      t1.kw = t2.kw ∧ t1.km = t2.km ∧ t1.kr = t2.kr

/-! ## The block transform (42_block_transform.md) -/

/-- R185, which the spec infers from R181 and R182: the two quad-rounds undo each other, and so do the
two block functions, for every key material. -/
def Obligations.QuadRoundsInvertEachOther : Prop :=
  ∀ (m : KeyMaterial) (x : Block),
    (∀ i : Fin 12, quadBar m (quad m x i) i = x ∧ quad m (quadBar m x i) i = x) ∧
    decblk m (encblk m x) = x ∧ encblk m (decblk m x) = x

/-- The sentence of R187 that the spec infers from R185: both block functions are bijections on blocks for every key
material. -/
def Obligations.BlockFunctionsAreBijections : Prop :=
  ∀ m : KeyMaterial, Function.Bijective (encblk m) ∧ Function.Bijective (decblk m)

/-- R186, which the spec infers from R181 to R184: encryption runs the 48 rows of the table from the top down,
decryption from the bottom up, and each of the 48 pairs is used exactly once. -/
def Obligations.FortyEightRoundTable : Prop :=
  (∀ (m : KeyMaterial) (x : Block),
    encblk m x = roundRows.foldl (applyRow m) x ∧ decblk m x = roundRows.reverse.foldl (applyRow m) x) ∧
  roundRows.length = 48 ∧ (roundRows.map RoundRow.key).Nodup

/-- The known answers of 95_test_vectors.md that R188 asks for: after `DERIVEKEY` of the keywords of V1 (128 bits), V2 (192
bits), V3 (256 bits) and of the zero key of V30, the zero block encrypts to the printed block, and that block decrypts to
the zero block. The values of V1 to V3 are the spec's from general knowledge (log entry 13), the one of V30 is the spec's
own inference. -/
def Obligations.KnownAnswers : Prop :=
  ∀ (s : State) (key : BitVec 256) (ciphertext : BitVec 128), DeriveReady s → KeywordIs s key →
    (key, ciphertext) ∈
      [((0x2342bb9efa38542c0af75647f29f615d00000000000000000000000000000000 : BitVec 256),
          (0xc842a08972b43d20836c91d1b7530f6b : BitVec 128)),
        (0x2342bb9efa38542cbed0ac83940ac298bac77a77179428630000000000000000, 0x1b386c0210dcadcbdd0e41aa08a7a7e8),
        (0x2342bb9efa38542cbed0ac83940ac2988d7c47ce264908461cc1b5137ae6b604, 0x4f6a2038286897b9c9870136553317fa),
        (0, 0x31c255aa874202eba0d714e9b53307f6)] →
      ∃ t, exec .derivekey s = .next t ∧ encblk (keyMaterial t) (blockOfBits 0) = blockOfBits ciphertext ∧
        decblk (keyMaterial t) (blockOfBits ciphertext) = blockOfBits 0

/-! ## The buffer codec (43_buffer_codec.md, 20_memory.md) -/

/-- R72: a word is its four bytes, the first most significant; the block as one integer is its four words in order; and
storing a block writes byte `q` of word `w` at offset `16b + 4w + q`. -/
def Obligations.BlocksAreBigEndian : Prop :=
  (∀ (sp : Space) (o : Nat), (sp.wordAt o).toNat =
    (sp.byteAt o).toNat * 2 ^ 24 + (sp.byteAt (o + 1)).toNat * 2 ^ 16 + (sp.byteAt (o + 2)).toNat * 2 ^ 8 +
      (sp.byteAt (o + 3)).toNat) ∧
  (∀ (sp : Space) (b : Nat),
    let x := sp.loadBlock b
    x.a = sp.wordAt (16 * b) ∧ x.b = sp.wordAt (16 * b + 4) ∧ x.c = sp.wordAt (16 * b + 8) ∧
    x.d = sp.wordAt (16 * b + 12) ∧ sp.blockAt (16 * b) = (x.a ++ x.b ++ x.c ++ x.d : BitVec (32 + 32 + 32 + 32))) ∧
  (∀ (sp : Space) (b : Nat) (x : Block), sp.wf → 16 * b + 16 ≤ sp.size →
    ∀ q, q < 4 →
      (sp.storeBlock b x).byteAt (16 * b + q) = x.a.extractLsb' (24 - 8 * q) 8 ∧
      (sp.storeBlock b x).byteAt (16 * b + 4 + q) = x.b.extractLsb' (24 - 8 * q) 8 ∧
      (sp.storeBlock b x).byteAt (16 * b + 8 + q) = x.c.extractLsb' (24 - 8 * q) 8 ∧
      (sp.storeBlock b x).byteAt (16 * b + 12 + q) = x.d.extractLsb' (24 - 8 * q) 8)

/-- R201, R241, R243: a transform with no key raises NoKey whatever the length; with a key and a length that is no
multiple of 16 it raises InvalidBufferLength; in both cases nothing else changes. -/
def Obligations.TransformChecksInOrder : Prop :=
  ∀ (i : Instr) (s : State), i = .xformE ∨ i = .xformD →
    (s.kvalid = false → exec i s = .next { s with err := .noKey }) ∧
    (s.kvalid = true → lenBytes s % 16 ≠ 0 → exec i s = .next { s with err := .invalidBufferLength })

/-- R204: `XFORM.E` completes on every state it is ready on: each of the `LEN / 16` blocks of the buffer becomes its
encryption under the key material, `ERR` becomes 0, and nothing else changes but the transient `x`. -/
def Obligations.XformEncryptCompletes : Prop :=
  ∀ s : State, s.buffer.wf → TransformReady s →
    ∃ t, exec .xformE s = .next t ∧
      (∀ b, b < lenBytes s / 16 → t.buffer.loadBlock b = encblk (keyMaterial s) (s.buffer.loadBlock b)) ∧
      (∀ off, lenBytes s ≤ off → t.buffer.byteAt off = s.buffer.byteAt off) ∧ t.buffer.size = s.buffer.size ∧
      t.err = .none ∧ t.kw = s.kw ∧ t.km = s.km ∧ t.kr = s.kr ∧ t.kvalid = s.kvalid ∧ t.len = s.len ∧ t.k = s.k ∧
      t.keyword = s.keyword ∧ t.pending = s.pending ∧ t.readback = s.readback ∧ t.params = s.params

/-- R205: `XFORM.D` completes on every state it is ready on: each block becomes its decryption, and everything said of
`XFORM.E` holds. -/
def Obligations.XformDecryptCompletes : Prop :=
  ∀ s : State, s.buffer.wf → TransformReady s →
    ∃ t, exec .xformD s = .next t ∧
      (∀ b, b < lenBytes s / 16 → t.buffer.loadBlock b = decblk (keyMaterial s) (s.buffer.loadBlock b)) ∧
      (∀ off, lenBytes s ≤ off → t.buffer.byteAt off = s.buffer.byteAt off) ∧ t.buffer.size = s.buffer.size ∧
      t.err = .none ∧ t.kw = s.kw ∧ t.km = s.km ∧ t.kr = s.kr ∧ t.kvalid = s.kvalid ∧ t.len = s.len ∧ t.k = s.k ∧
      t.keyword = s.keyword ∧ t.pending = s.pending ∧ t.readback = s.readback ∧ t.params = s.params

/-- R35, R87, R204, R205, R208: the frame of `XFORM.E` and `XFORM.D`. Whenever one answers a next state it has changed
neither the key state, nor `LEN`, nor `k`, nor the KEYWORD space, nor the host's side, nor any byte of the buffer outside
the 16 bytes of the blocks it stores; when it raised an error it has changed no byte at all and `x` neither. -/
def Obligations.TransformFrame : Prop :=
  ∀ (i : Instr) (s t : State), i = .xformE ∨ i = .xformD → s.buffer.wf → exec i s = .next t →
    t.kw = s.kw ∧ t.km = s.km ∧ t.kr = s.kr ∧ t.kvalid = s.kvalid ∧ t.len = s.len ∧ t.k = s.k ∧
    t.keyword = s.keyword ∧ t.pending = s.pending ∧ t.readback = s.readback ∧ t.params = s.params ∧
    t.buffer.size = s.buffer.size ∧ (∀ off, OutsideBlocks s off → t.buffer.byteAt off = s.buffer.byteAt off) ∧
    (t.err ≠ .none → t.buffer = s.buffer ∧ t.x = s.x)

/-- R209, which the spec infers from R201 and R204: with a key and `LEN = 0` both transforms complete, `ERR` is 0
and the buffer is as it was. -/
def Obligations.EmptyBufferCompletes : Prop :=
  ∀ (i : Instr) (s : State), i = .xformE ∨ i = .xformD → s.kvalid = true → s.len = 0 →
    ∃ t, exec i s = .next t ∧ t.err = .none ∧ t.buffer = s.buffer

/-- R284 H9 calls a short binding not defined, and by U6 the host's move exists only with enough bytes bound. That the model
has the move and refuses the command by name (DESIGN CHOICE), and does so only after the command's checks (DEDUCED), is the
model's choice, log entry 9: a command whose check passes but whose operand space is bound too short is refused. -/
def Obligations.ShortBindingIsRefused : Prop :=
  ∀ (i : Instr) (s : State), commandCheck i s = none → operandBound i s = false →
    exec i s = .refused .operandTooShort

/-- R206, which the spec infers from R204 and R205: an output block is a function of the input block and the
key material only: two runs under one key agree on an output block exactly where they agree on the input
block, and equal blocks of one buffer stay exactly equal. -/
def Obligations.BlocksAreIndependent : Prop :=
  ∀ (i : Instr) (s1 s2 : State), i = .xformE ∨ i = .xformD → s1.buffer.wf → s2.buffer.wf →
    TransformReady s1 → TransformReady s2 → keyMaterial s1 = keyMaterial s2 → s1.len = s2.len →
      ∃ t1 t2, exec i s1 = .next t1 ∧ exec i s2 = .next t2 ∧
        ∀ b c, b < lenBytes s1 / 16 → c < lenBytes s1 / 16 →
          (t1.buffer.loadBlock b = t2.buffer.loadBlock c ↔ s1.buffer.loadBlock b = s2.buffer.loadBlock c)

/-- R81, R83, R212: every order of the blocks gives the same buffer, whatever the block function. The sentence of R81 is the
spec's own inference from R204 and R205; that the model runs one worker in ascending order rests on it (log entry 11). -/
def Obligations.BlockOrderIsImmaterial : Prop :=
  ∀ (f : Block → Block) (order : List Nat) (s : State), s.buffer.wf → lenBytes s ≤ s.buffer.size →
    order.Perm (List.range (blockCount s)) →
      (transformBlocks f order s).buffer = (transformBlocks f (List.range (blockCount s)) s).buffer

/-- R210: under one key material `XFORM.E` then `XFORM.D` restore every byte of the buffer, and so do `XFORM.D` then
`XFORM.E`. R210 marks this form in commands, and the order `XFORM.D` then `XFORM.E`, as its own inference from R204, R205
and R185. -/
def Obligations.TransformsRoundTrip : Prop :=
  ∀ s : State, s.buffer.wf → TransformReady s →
    (∃ t u, exec .xformE s = .next t ∧ exec .xformD t = .next u ∧ u.buffer = s.buffer) ∧
    (∃ t u, exec .xformD s = .next t ∧ exec .xformE t = .next u ∧ u.buffer = s.buffer)

/-- R210, R139: the round trip holds across a second `DERIVEKEY` of a keyword that normalizes alike, for every keyword
length. R210 states the lengths 1 to 64; every other length is its own inference from R138, and R139 is one from R137.
`a` and `b` are the machines the two `DERIVEKEY` run on; `c` and `d` are the machines the transforms run on, under the
key each left. -/
def Obligations.RoundTripAcrossRekeying : Prop :=
  ∀ a b a' b' c c' d : State, DeriveReady a → DeriveReady b → (∀ j, j < 32 → keywordByte a j = keywordByte b j) →
    exec .derivekey a = .next a' → exec .derivekey b = .next b' →
    c.buffer.wf → TransformReady c → keyMaterial c = keyMaterial a' → exec .xformE c = .next c' →
    d.kvalid = true → keyMaterial d = keyMaterial b' → d.len = c'.len → d.buffer = c'.buffer →
      ∃ d', exec .xformD d = .next d' ∧ d'.buffer = c.buffer

/-! ## Errors and rules of the whole machine (60_exceptions.md, 10_state.md) -/

/-- R247: the state after a raised command is the state before it, except `ERR`, whichever word was written. -/
def Obligations.ErrorsChangeOnlyErr : Prop :=
  ∀ (s t : State) (w : Word) (rest : List HostMove), s.pending = .writeReg 0 w :: rest → step s = .next t →
    t.err ≠ .none → t = { s with pending := rest, err := t.err }

/-- R39: no command's behaviour depends on `ERR`. -/
def Obligations.ErrIsNeverRead : Prop :=
  ∀ (i : Instr) (s : State) (e : ErrCode), exec i { s with err := e } = exec i s

/-- R31: no command reads `KW`: a transform carries it along and its outcome does not depend on it, and a `DERIVEKEY` that
runs leaves the same machine whatever it held. -/
def Obligations.KwIsNeverRead : Prop :=
  ∀ (s : State) (kw : Vector Byte 32),
    (∀ i, i = .xformE ∨ i = .xformD →
      exec i { s with kw := kw } = match exec i s with
        | .next t => .next { t with kw := kw }
        | .fault f => .fault f
        | .refused r => .refused r) ∧
    (DeriveReady s → exec .derivekey { s with kw := kw } = exec .derivekey s)

/-- R34: `KVALID` is set only by a completed `DERIVEKEY` and cleared only by a reset. -/
def Obligations.KvalidChangesOnlyByDerivekeyOrReset : Prop :=
  ∀ s t : State, step s = .next t →
    (s.kvalid = false → t.kvalid = true → ∃ rest, s.pending = .writeReg 0 0x00000001 :: rest) ∧
    (s.kvalid = true → t.kvalid = false →
      ∃ rest, s.pending = .reset :: rest ∨ ∃ w, s.pending = .resetDuring w :: rest)

/-- R35: no step writes `KW`, `KM` or `KR` but a `DERIVEKEY` and a reset. -/
def Obligations.KeyMaterialIsImmutable : Prop :=
  ∀ (s t : State) (m : HostMove) (rest : List HostMove), s.pending = m :: rest → step s = .next t →
    m ≠ .writeReg 0 0x00000001 → m ≠ .reset → (∀ w, m ≠ .resetDuring w) →
      t.kw = s.kw ∧ t.km = s.km ∧ t.kr = s.kr

/-- R71, R281: no command writes the KEYWORD space, and of the commands only a transform writes the BUFFER space, as does a
reset that arrives during one. That the steps which are no command leave both spaces alone is the model's reading: a plain
reset keeps both (DEDUCED, log entry 12), binding one space keeps the other (DESIGN CHOICE, log entry 7), an access to a
number that is no register keeps both (DEDUCED, log entry 8); and a reset during a command is a move by log entry 4. -/
def Obligations.StepsReachOnlyTheirSpace : Prop :=
  ∀ (s t : State) (m : HostMove) (rest : List HostMove), s.pending = m :: rest → step s = .next t →
    (t.keyword ≠ s.keyword → ∃ bytes, m = .bindOperand .keyword bytes) ∧
    (t.buffer ≠ s.buffer →
      (∃ bytes, m = .bindOperand .buffer bytes) ∨ m = .writeReg 0 0x00000002 ∨ m = .writeReg 0 0x00000102 ∨
        m = .resetDuring 0x00000002 ∨ m = .resetDuring 0x00000102)

/-! ## Invariants -/

/-- Every step keeps both operand spaces in their canonical form, which is the model's choice (DESIGN CHOICE, log entry 7). -/
def Obligations.StepKeepsSpacesCanonical : Prop :=
  ∀ s t : State, SpacesCanonical s → step s = .next t → SpacesCanonical t

/-- R34: every step keeps `KVALID` truthful: when it is 1, `KM` and `KR` are the expansion of `KW`. -/
def Obligations.StepKeepsKeyConsistent : Prop :=
  ∀ s t : State, KeyConsistent s → step s = .next t → KeyConsistent t

/-- R42: every step keeps `LEN` within `LENW` bits. That the parameters, inputs of a step by R48, ride in the state and stay as
they are, with `LENW` at most 32, is the model's reading (DEDUCED, log entry 6). -/
def Obligations.StepKeepsLenInRange : Prop :=
  ∀ s t : State, LenInRange s → step s = .next t → LenInRange t ∧ t.params = s.params

/-- The three invariants hold right after reset. `KVALID` 0 and `LEN` 0 are R47's. R47 gives the operand spaces no value: that
both are empty and canonical is the model's choice (DESIGN CHOICE, log entry 7). The parameters are inputs by R48: that the
state holds them, at the defaults of R7, with `LENW` at most 32, is the model's reading (DEDUCED, log entry 6). -/
def Obligations.ResetMeetsTheInvariants : Prop :=
  SpacesCanonical State.reset ∧ KeyConsistent State.reset ∧ LenInRange State.reset
end

