-- ==== Sys2Proof/Laws/State.lean ====
section
/-! SUPPORT. One lemma per field per update of the state, true by unfolding, so that no later proof unfolds a record
update. -/

namespace Sys2Proof.Machine

/-! ## raise -/

@[simp] theorem raise_kw (e : ErrCode) (s : State) : (raise e s).kw = s.kw := rfl
@[simp] theorem raise_km (e : ErrCode) (s : State) : (raise e s).km = s.km := rfl
@[simp] theorem raise_kr (e : ErrCode) (s : State) : (raise e s).kr = s.kr := rfl
@[simp] theorem raise_kvalid (e : ErrCode) (s : State) : (raise e s).kvalid = s.kvalid := rfl
@[simp] theorem raise_err (e : ErrCode) (s : State) : (raise e s).err = e := rfl
@[simp] theorem raise_len (e : ErrCode) (s : State) : (raise e s).len = s.len := rfl
@[simp] theorem raise_x (e : ErrCode) (s : State) : (raise e s).x = s.x := rfl
@[simp] theorem raise_k (e : ErrCode) (s : State) : (raise e s).k = s.k := rfl
@[simp] theorem raise_keyword (e : ErrCode) (s : State) : (raise e s).keyword = s.keyword := rfl
@[simp] theorem raise_buffer (e : ErrCode) (s : State) : (raise e s).buffer = s.buffer := rfl
@[simp] theorem raise_pending (e : ErrCode) (s : State) : (raise e s).pending = s.pending := rfl
@[simp] theorem raise_readback (e : ErrCode) (s : State) : (raise e s).readback = s.readback := rfl
@[simp] theorem raise_params (e : ErrCode) (s : State) : (raise e s).params = s.params := rfl
@[simp] theorem raise_epoch (e : ErrCode) (s : State) : (raise e s).epoch = s.epoch := rfl

/-! ## complete -/

@[simp] theorem complete_kw (s : State) : (complete s).kw = s.kw := rfl
@[simp] theorem complete_km (s : State) : (complete s).km = s.km := rfl
@[simp] theorem complete_kr (s : State) : (complete s).kr = s.kr := rfl
@[simp] theorem complete_kvalid (s : State) : (complete s).kvalid = s.kvalid := rfl
@[simp] theorem complete_err (s : State) : (complete s).err = .none := rfl
@[simp] theorem complete_len (s : State) : (complete s).len = s.len := rfl
@[simp] theorem complete_x (s : State) : (complete s).x = s.x := rfl
@[simp] theorem complete_k (s : State) : (complete s).k = s.k := rfl
@[simp] theorem complete_keyword (s : State) : (complete s).keyword = s.keyword := rfl
@[simp] theorem complete_buffer (s : State) : (complete s).buffer = s.buffer := rfl
@[simp] theorem complete_pending (s : State) : (complete s).pending = s.pending := rfl
@[simp] theorem complete_readback (s : State) : (complete s).readback = s.readback := rfl
@[simp] theorem complete_params (s : State) : (complete s).params = s.params := rfl
@[simp] theorem complete_epoch (s : State) : (complete s).epoch = s.epoch := rfl

/-! ## retireX -/

@[simp] theorem retireX_kw (s : State) : (retireX s).kw = s.kw := by simp only [retireX]
@[simp] theorem retireX_km (s : State) : (retireX s).km = s.km := by simp only [retireX]
@[simp] theorem retireX_kr (s : State) : (retireX s).kr = s.kr := by simp only [retireX]
@[simp] theorem retireX_kvalid (s : State) : (retireX s).kvalid = s.kvalid := by simp only [retireX]
@[simp] theorem retireX_err (s : State) : (retireX s).err = s.err := by simp only [retireX]
@[simp] theorem retireX_len (s : State) : (retireX s).len = s.len := by simp only [retireX]
@[simp] theorem retireX_x (s : State) : (retireX s).x = unspecifiedX s.epoch := by simp only [retireX]
@[simp] theorem retireX_k (s : State) : (retireX s).k = s.k := by simp only [retireX]
@[simp] theorem retireX_keyword (s : State) : (retireX s).keyword = s.keyword := by simp only [retireX]
@[simp] theorem retireX_buffer (s : State) : (retireX s).buffer = s.buffer := by simp only [retireX]
@[simp] theorem retireX_pending (s : State) : (retireX s).pending = s.pending := by simp only [retireX]
@[simp] theorem retireX_readback (s : State) : (retireX s).readback = s.readback := by simp only [retireX]
@[simp] theorem retireX_params (s : State) : (retireX s).params = s.params := by simp only [retireX]
@[simp] theorem retireX_epoch (s : State) : (retireX s).epoch = s.epoch + 1 := by simp only [retireX]

/-! ## retireK -/

@[simp] theorem retireK_kw (s : State) : (retireK s).kw = s.kw := by simp only [retireK]
@[simp] theorem retireK_km (s : State) : (retireK s).km = s.km := by simp only [retireK]
@[simp] theorem retireK_kr (s : State) : (retireK s).kr = s.kr := by simp only [retireK]
@[simp] theorem retireK_kvalid (s : State) : (retireK s).kvalid = s.kvalid := by simp only [retireK]
@[simp] theorem retireK_err (s : State) : (retireK s).err = s.err := by simp only [retireK]
@[simp] theorem retireK_len (s : State) : (retireK s).len = s.len := by simp only [retireK]
@[simp] theorem retireK_x (s : State) : (retireK s).x = s.x := by simp only [retireK]
@[simp] theorem retireK_k (s : State) : (retireK s).k = unspecifiedK s.epoch := by simp only [retireK]
@[simp] theorem retireK_keyword (s : State) : (retireK s).keyword = s.keyword := by simp only [retireK]
@[simp] theorem retireK_buffer (s : State) : (retireK s).buffer = s.buffer := by simp only [retireK]
@[simp] theorem retireK_pending (s : State) : (retireK s).pending = s.pending := by simp only [retireK]
@[simp] theorem retireK_readback (s : State) : (retireK s).readback = s.readback := by simp only [retireK]
@[simp] theorem retireK_params (s : State) : (retireK s).params = s.params := by simp only [retireK]
@[simp] theorem retireK_epoch (s : State) : (retireK s).epoch = s.epoch + 1 := by simp only [retireK]

/-! ## ldblk -/

@[simp] theorem ldblk_kw (b : Nat) (s : State) : (ldblk b s).kw = s.kw := by simp only [ldblk]
@[simp] theorem ldblk_km (b : Nat) (s : State) : (ldblk b s).km = s.km := by simp only [ldblk]
@[simp] theorem ldblk_kr (b : Nat) (s : State) : (ldblk b s).kr = s.kr := by simp only [ldblk]
@[simp] theorem ldblk_kvalid (b : Nat) (s : State) : (ldblk b s).kvalid = s.kvalid := by simp only [ldblk]
@[simp] theorem ldblk_err (b : Nat) (s : State) : (ldblk b s).err = s.err := by simp only [ldblk]
@[simp] theorem ldblk_len (b : Nat) (s : State) : (ldblk b s).len = s.len := by simp only [ldblk]
@[simp] theorem ldblk_x (b : Nat) (s : State) : (ldblk b s).x = s.buffer.loadBlock b := by simp only [ldblk]
@[simp] theorem ldblk_k (b : Nat) (s : State) : (ldblk b s).k = s.k := by simp only [ldblk]
@[simp] theorem ldblk_keyword (b : Nat) (s : State) : (ldblk b s).keyword = s.keyword := by simp only [ldblk]
@[simp] theorem ldblk_buffer (b : Nat) (s : State) : (ldblk b s).buffer = s.buffer := by simp only [ldblk]
@[simp] theorem ldblk_pending (b : Nat) (s : State) : (ldblk b s).pending = s.pending := by simp only [ldblk]
@[simp] theorem ldblk_readback (b : Nat) (s : State) : (ldblk b s).readback = s.readback := by simp only [ldblk]
@[simp] theorem ldblk_params (b : Nat) (s : State) : (ldblk b s).params = s.params := by simp only [ldblk]
@[simp] theorem ldblk_epoch (b : Nat) (s : State) : (ldblk b s).epoch = s.epoch := by simp only [ldblk]

/-! ## stblk -/

@[simp] theorem stblk_kw (b : Nat) (s : State) : (stblk b s).kw = s.kw := by simp only [stblk]
@[simp] theorem stblk_km (b : Nat) (s : State) : (stblk b s).km = s.km := by simp only [stblk]
@[simp] theorem stblk_kr (b : Nat) (s : State) : (stblk b s).kr = s.kr := by simp only [stblk]
@[simp] theorem stblk_kvalid (b : Nat) (s : State) : (stblk b s).kvalid = s.kvalid := by simp only [stblk]
@[simp] theorem stblk_err (b : Nat) (s : State) : (stblk b s).err = s.err := by simp only [stblk]
@[simp] theorem stblk_len (b : Nat) (s : State) : (stblk b s).len = s.len := by simp only [stblk]
@[simp] theorem stblk_x (b : Nat) (s : State) : (stblk b s).x = s.x := by simp only [stblk]
@[simp] theorem stblk_k (b : Nat) (s : State) : (stblk b s).k = s.k := by simp only [stblk]
@[simp] theorem stblk_keyword (b : Nat) (s : State) : (stblk b s).keyword = s.keyword := by simp only [stblk]
@[simp] theorem stblk_buffer (b : Nat) (s : State) : (stblk b s).buffer = s.buffer.storeBlock b s.x := by simp only [stblk]
@[simp] theorem stblk_pending (b : Nat) (s : State) : (stblk b s).pending = s.pending := by simp only [stblk]
@[simp] theorem stblk_readback (b : Nat) (s : State) : (stblk b s).readback = s.readback := by simp only [stblk]
@[simp] theorem stblk_params (b : Nat) (s : State) : (stblk b s).params = s.params := by simp only [stblk]
@[simp] theorem stblk_epoch (b : Nat) (s : State) : (stblk b s).epoch = s.epoch := by simp only [stblk]

/-! ## normalize -/

@[simp] theorem normalize_kw (s : State) : (normalize s).kw = Vector.ofFn fun j => keywordByte s j := by simp only [normalize]
@[simp] theorem normalize_km (s : State) : (normalize s).km = s.km := by simp only [normalize]
@[simp] theorem normalize_kr (s : State) : (normalize s).kr = s.kr := by simp only [normalize]
@[simp] theorem normalize_kvalid (s : State) : (normalize s).kvalid = s.kvalid := by simp only [normalize]
@[simp] theorem normalize_err (s : State) : (normalize s).err = s.err := by simp only [normalize]
@[simp] theorem normalize_len (s : State) : (normalize s).len = s.len := by simp only [normalize]
@[simp] theorem normalize_x (s : State) : (normalize s).x = s.x := by simp only [normalize]
@[simp] theorem normalize_k (s : State) : (normalize s).k = s.k := by simp only [normalize]
@[simp] theorem normalize_keyword (s : State) : (normalize s).keyword = s.keyword := by simp only [normalize]
@[simp] theorem normalize_buffer (s : State) : (normalize s).buffer = s.buffer := by simp only [normalize]
@[simp] theorem normalize_pending (s : State) : (normalize s).pending = s.pending := by simp only [normalize]
@[simp] theorem normalize_readback (s : State) : (normalize s).readback = s.readback := by simp only [normalize]
@[simp] theorem normalize_params (s : State) : (normalize s).params = s.params := by simp only [normalize]
@[simp] theorem normalize_epoch (s : State) : (normalize s).epoch = s.epoch := by simp only [normalize]

/-! ## loadk -/

@[simp] theorem loadk_kw (s : State) : (loadk s).kw = s.kw := by simp only [loadk]
@[simp] theorem loadk_km (s : State) : (loadk s).km = s.km := by simp only [loadk]
@[simp] theorem loadk_kr (s : State) : (loadk s).kr = s.kr := by simp only [loadk]
@[simp] theorem loadk_kvalid (s : State) : (loadk s).kvalid = s.kvalid := by simp only [loadk]
@[simp] theorem loadk_err (s : State) : (loadk s).err = s.err := by simp only [loadk]
@[simp] theorem loadk_len (s : State) : (loadk s).len = s.len := by simp only [loadk]
@[simp] theorem loadk_x (s : State) : (loadk s).x = s.x := by simp only [loadk]
@[simp] theorem loadk_k (s : State) : (loadk s).k = keyWords s.kw := by simp only [loadk]
@[simp] theorem loadk_keyword (s : State) : (loadk s).keyword = s.keyword := by simp only [loadk]
@[simp] theorem loadk_buffer (s : State) : (loadk s).buffer = s.buffer := by simp only [loadk]
@[simp] theorem loadk_pending (s : State) : (loadk s).pending = s.pending := by simp only [loadk]
@[simp] theorem loadk_readback (s : State) : (loadk s).readback = s.readback := by simp only [loadk]
@[simp] theorem loadk_params (s : State) : (loadk s).params = s.params := by simp only [loadk]
@[simp] theorem loadk_epoch (s : State) : (loadk s).epoch = s.epoch := by simp only [loadk]

/-! ## stepW -/

@[simp] theorem stepW_kw (i : Nat) (s : State) : (stepW i s).kw = s.kw := by simp only [stepW]
@[simp] theorem stepW_km (i : Nat) (s : State) : (stepW i s).km = s.km := by simp only [stepW]
@[simp] theorem stepW_kr (i : Nat) (s : State) : (stepW i s).kr = s.kr := by simp only [stepW]
@[simp] theorem stepW_kvalid (i : Nat) (s : State) : (stepW i s).kvalid = s.kvalid := by simp only [stepW]
@[simp] theorem stepW_err (i : Nat) (s : State) : (stepW i s).err = s.err := by simp only [stepW]
@[simp] theorem stepW_len (i : Nat) (s : State) : (stepW i s).len = s.len := by simp only [stepW]
@[simp] theorem stepW_x (i : Nat) (s : State) : (stepW i s).x = s.x := by simp only [stepW]
@[simp] theorem stepW_k (i : Nat) (s : State) : (stepW i s).k = octave i s.k := by simp only [stepW]
@[simp] theorem stepW_keyword (i : Nat) (s : State) : (stepW i s).keyword = s.keyword := by simp only [stepW]
@[simp] theorem stepW_buffer (i : Nat) (s : State) : (stepW i s).buffer = s.buffer := by simp only [stepW]
@[simp] theorem stepW_pending (i : Nat) (s : State) : (stepW i s).pending = s.pending := by simp only [stepW]
@[simp] theorem stepW_readback (i : Nat) (s : State) : (stepW i s).readback = s.readback := by simp only [stepW]
@[simp] theorem stepW_params (i : Nat) (s : State) : (stepW i s).params = s.params := by simp only [stepW]
@[simp] theorem stepW_epoch (i : Nat) (s : State) : (stepW i s).epoch = s.epoch := by simp only [stepW]

/-! ## krExtract -/

@[simp] theorem krExtract_kw (i : Fin 12) (s : State) : (krExtract i s).kw = s.kw := by simp only [krExtract]
@[simp] theorem krExtract_km (i : Fin 12) (s : State) : (krExtract i s).km = s.km := by simp only [krExtract]
@[simp] theorem krExtract_kvalid (i : Fin 12) (s : State) : (krExtract i s).kvalid = s.kvalid := by simp only [krExtract]
@[simp] theorem krExtract_err (i : Fin 12) (s : State) : (krExtract i s).err = s.err := by simp only [krExtract]
@[simp] theorem krExtract_len (i : Fin 12) (s : State) : (krExtract i s).len = s.len := by simp only [krExtract]
@[simp] theorem krExtract_x (i : Fin 12) (s : State) : (krExtract i s).x = s.x := by simp only [krExtract]
@[simp] theorem krExtract_k (i : Fin 12) (s : State) : (krExtract i s).k = s.k := by simp only [krExtract]
@[simp] theorem krExtract_keyword (i : Fin 12) (s : State) : (krExtract i s).keyword = s.keyword := by simp only [krExtract]
@[simp] theorem krExtract_buffer (i : Fin 12) (s : State) : (krExtract i s).buffer = s.buffer := by simp only [krExtract]
@[simp] theorem krExtract_pending (i : Fin 12) (s : State) : (krExtract i s).pending = s.pending := by simp only [krExtract]
@[simp] theorem krExtract_readback (i : Fin 12) (s : State) : (krExtract i s).readback = s.readback := by simp only [krExtract]
@[simp] theorem krExtract_params (i : Fin 12) (s : State) : (krExtract i s).params = s.params := by simp only [krExtract]
@[simp] theorem krExtract_epoch (i : Fin 12) (s : State) : (krExtract i s).epoch = s.epoch := by simp only [krExtract]

/-! ## kmExtract -/

@[simp] theorem kmExtract_kw (i : Fin 12) (s : State) : (kmExtract i s).kw = s.kw := by simp only [kmExtract]
@[simp] theorem kmExtract_kr (i : Fin 12) (s : State) : (kmExtract i s).kr = s.kr := by simp only [kmExtract]
@[simp] theorem kmExtract_kvalid (i : Fin 12) (s : State) : (kmExtract i s).kvalid = s.kvalid := by simp only [kmExtract]
@[simp] theorem kmExtract_err (i : Fin 12) (s : State) : (kmExtract i s).err = s.err := by simp only [kmExtract]
@[simp] theorem kmExtract_len (i : Fin 12) (s : State) : (kmExtract i s).len = s.len := by simp only [kmExtract]
@[simp] theorem kmExtract_x (i : Fin 12) (s : State) : (kmExtract i s).x = s.x := by simp only [kmExtract]
@[simp] theorem kmExtract_k (i : Fin 12) (s : State) : (kmExtract i s).k = s.k := by simp only [kmExtract]
@[simp] theorem kmExtract_keyword (i : Fin 12) (s : State) : (kmExtract i s).keyword = s.keyword := by simp only [kmExtract]
@[simp] theorem kmExtract_buffer (i : Fin 12) (s : State) : (kmExtract i s).buffer = s.buffer := by simp only [kmExtract]
@[simp] theorem kmExtract_pending (i : Fin 12) (s : State) : (kmExtract i s).pending = s.pending := by simp only [kmExtract]
@[simp] theorem kmExtract_readback (i : Fin 12) (s : State) : (kmExtract i s).readback = s.readback := by simp only [kmExtract]
@[simp] theorem kmExtract_params (i : Fin 12) (s : State) : (kmExtract i s).params = s.params := by simp only [kmExtract]
@[simp] theorem kmExtract_epoch (i : Fin 12) (s : State) : (kmExtract i s).epoch = s.epoch := by simp only [kmExtract]

/-! ## setKvalid -/

@[simp] theorem setKvalid_kw (s : State) : (setKvalid s).kw = s.kw := rfl
@[simp] theorem setKvalid_km (s : State) : (setKvalid s).km = s.km := rfl
@[simp] theorem setKvalid_kr (s : State) : (setKvalid s).kr = s.kr := rfl
@[simp] theorem setKvalid_kvalid (s : State) : (setKvalid s).kvalid = true := rfl
@[simp] theorem setKvalid_err (s : State) : (setKvalid s).err = s.err := rfl
@[simp] theorem setKvalid_len (s : State) : (setKvalid s).len = s.len := rfl
@[simp] theorem setKvalid_x (s : State) : (setKvalid s).x = s.x := rfl
@[simp] theorem setKvalid_k (s : State) : (setKvalid s).k = s.k := rfl
@[simp] theorem setKvalid_keyword (s : State) : (setKvalid s).keyword = s.keyword := rfl
@[simp] theorem setKvalid_buffer (s : State) : (setKvalid s).buffer = s.buffer := rfl
@[simp] theorem setKvalid_pending (s : State) : (setKvalid s).pending = s.pending := rfl
@[simp] theorem setKvalid_readback (s : State) : (setKvalid s).readback = s.readback := rfl
@[simp] theorem setKvalid_params (s : State) : (setKvalid s).params = s.params := rfl
@[simp] theorem setKvalid_epoch (s : State) : (setKvalid s).epoch = s.epoch := rfl

/-! ## writeLen -/

@[simp] theorem writeLen_kw (v : Word) (s : State) : (writeLen v s).kw = s.kw := by simp only [writeLen]
@[simp] theorem writeLen_km (v : Word) (s : State) : (writeLen v s).km = s.km := by simp only [writeLen]
@[simp] theorem writeLen_kr (v : Word) (s : State) : (writeLen v s).kr = s.kr := by simp only [writeLen]
@[simp] theorem writeLen_kvalid (v : Word) (s : State) : (writeLen v s).kvalid = s.kvalid := by simp only [writeLen]
@[simp] theorem writeLen_err (v : Word) (s : State) : (writeLen v s).err = s.err := by simp only [writeLen]
@[simp] theorem writeLen_len (v : Word) (s : State) : (writeLen v s).len = BitVec.ofNat 32 (v.toNat % 2 ^ s.params.lenw) := by simp only [writeLen]
@[simp] theorem writeLen_x (v : Word) (s : State) : (writeLen v s).x = s.x := by simp only [writeLen]
@[simp] theorem writeLen_k (v : Word) (s : State) : (writeLen v s).k = s.k := by simp only [writeLen]
@[simp] theorem writeLen_keyword (v : Word) (s : State) : (writeLen v s).keyword = s.keyword := by simp only [writeLen]
@[simp] theorem writeLen_buffer (v : Word) (s : State) : (writeLen v s).buffer = s.buffer := by simp only [writeLen]
@[simp] theorem writeLen_pending (v : Word) (s : State) : (writeLen v s).pending = s.pending := by simp only [writeLen]
@[simp] theorem writeLen_readback (v : Word) (s : State) : (writeLen v s).readback = s.readback := by simp only [writeLen]
@[simp] theorem writeLen_params (v : Word) (s : State) : (writeLen v s).params = s.params := by simp only [writeLen]
@[simp] theorem writeLen_epoch (v : Word) (s : State) : (writeLen v s).epoch = s.epoch := by simp only [writeLen]

/-! ## engineReset -/

@[simp] theorem engineReset_kw (s : State) : (engineReset s).kw = unspecifiedKw s.epoch := by simp only [engineReset]
@[simp] theorem engineReset_km (s : State) : (engineReset s).km = unspecifiedKm s.epoch := by simp only [engineReset]
@[simp] theorem engineReset_kr (s : State) : (engineReset s).kr = unspecifiedKr s.epoch := by simp only [engineReset]
@[simp] theorem engineReset_kvalid (s : State) : (engineReset s).kvalid = false := by simp only [engineReset]
@[simp] theorem engineReset_err (s : State) : (engineReset s).err = .none := by simp only [engineReset]
@[simp] theorem engineReset_len (s : State) : (engineReset s).len = 0 := by simp only [engineReset]
@[simp] theorem engineReset_x (s : State) : (engineReset s).x = unspecifiedX s.epoch := by simp only [engineReset]
@[simp] theorem engineReset_k (s : State) : (engineReset s).k = unspecifiedK s.epoch := by simp only [engineReset]
@[simp] theorem engineReset_keyword (s : State) : (engineReset s).keyword = s.keyword := by simp only [engineReset]
@[simp] theorem engineReset_buffer (s : State) : (engineReset s).buffer = s.buffer := by simp only [engineReset]
@[simp] theorem engineReset_pending (s : State) : (engineReset s).pending = s.pending := by simp only [engineReset]
@[simp] theorem engineReset_readback (s : State) : (engineReset s).readback = s.readback := by simp only [engineReset]
@[simp] theorem engineReset_params (s : State) : (engineReset s).params = s.params := by simp only [engineReset]
@[simp] theorem engineReset_epoch (s : State) : (engineReset s).epoch = s.epoch + 1 := by simp only [engineReset]

/-! ## abortBuffer -/

@[simp] theorem abortBuffer_kw (s : State) : (abortBuffer s).kw = s.kw := by simp only [abortBuffer]
@[simp] theorem abortBuffer_km (s : State) : (abortBuffer s).km = s.km := by simp only [abortBuffer]
@[simp] theorem abortBuffer_kr (s : State) : (abortBuffer s).kr = s.kr := by simp only [abortBuffer]
@[simp] theorem abortBuffer_kvalid (s : State) : (abortBuffer s).kvalid = s.kvalid := by simp only [abortBuffer]
@[simp] theorem abortBuffer_err (s : State) : (abortBuffer s).err = s.err := by simp only [abortBuffer]
@[simp] theorem abortBuffer_len (s : State) : (abortBuffer s).len = s.len := by simp only [abortBuffer]
@[simp] theorem abortBuffer_x (s : State) : (abortBuffer s).x = s.x := by simp only [abortBuffer]
@[simp] theorem abortBuffer_k (s : State) : (abortBuffer s).k = s.k := by simp only [abortBuffer]
@[simp] theorem abortBuffer_keyword (s : State) : (abortBuffer s).keyword = s.keyword := by simp only [abortBuffer]
@[simp] theorem abortBuffer_pending (s : State) : (abortBuffer s).pending = s.pending := by simp only [abortBuffer]
@[simp] theorem abortBuffer_readback (s : State) : (abortBuffer s).readback = s.readback := by simp only [abortBuffer]
@[simp] theorem abortBuffer_params (s : State) : (abortBuffer s).params = s.params := by simp only [abortBuffer]
@[simp] theorem abortBuffer_epoch (s : State) : (abortBuffer s).epoch = s.epoch := by simp only [abortBuffer]

/-! ## placeCommand -/

@[simp] theorem placeCommand_kw (w : Word) (s : State) : (placeCommand w s).kw = s.kw := rfl
@[simp] theorem placeCommand_km (w : Word) (s : State) : (placeCommand w s).km = s.km := rfl
@[simp] theorem placeCommand_kr (w : Word) (s : State) : (placeCommand w s).kr = s.kr := rfl
@[simp] theorem placeCommand_kvalid (w : Word) (s : State) : (placeCommand w s).kvalid = s.kvalid := rfl
@[simp] theorem placeCommand_err (w : Word) (s : State) : (placeCommand w s).err = s.err := rfl
@[simp] theorem placeCommand_len (w : Word) (s : State) : (placeCommand w s).len = s.len := rfl
@[simp] theorem placeCommand_x (w : Word) (s : State) : (placeCommand w s).x = s.x := rfl
@[simp] theorem placeCommand_k (w : Word) (s : State) : (placeCommand w s).k = s.k := rfl
@[simp] theorem placeCommand_keyword (w : Word) (s : State) : (placeCommand w s).keyword = s.keyword := rfl
@[simp] theorem placeCommand_buffer (w : Word) (s : State) : (placeCommand w s).buffer = s.buffer := rfl
@[simp] theorem placeCommand_pending (w : Word) (s : State) : (placeCommand w s).pending = .writeReg 0 w :: s.pending := rfl
@[simp] theorem placeCommand_readback (w : Word) (s : State) : (placeCommand w s).readback = s.readback := rfl
@[simp] theorem placeCommand_params (w : Word) (s : State) : (placeCommand w s).params = s.params := rfl
@[simp] theorem placeCommand_epoch (w : Word) (s : State) : (placeCommand w s).epoch = s.epoch := rfl

/-! ## bindOperand .keyword -/

@[simp] theorem bindOperand_keyword_kw (bytes : List Byte) (s : State) :
    (bindOperand .keyword bytes s).kw = s.kw := rfl
@[simp] theorem bindOperand_keyword_km (bytes : List Byte) (s : State) :
    (bindOperand .keyword bytes s).km = s.km := rfl
@[simp] theorem bindOperand_keyword_kr (bytes : List Byte) (s : State) :
    (bindOperand .keyword bytes s).kr = s.kr := rfl
@[simp] theorem bindOperand_keyword_kvalid (bytes : List Byte) (s : State) :
    (bindOperand .keyword bytes s).kvalid = s.kvalid := rfl
@[simp] theorem bindOperand_keyword_err (bytes : List Byte) (s : State) :
    (bindOperand .keyword bytes s).err = s.err := rfl
@[simp] theorem bindOperand_keyword_len (bytes : List Byte) (s : State) :
    (bindOperand .keyword bytes s).len = s.len := rfl
@[simp] theorem bindOperand_keyword_x (bytes : List Byte) (s : State) :
    (bindOperand .keyword bytes s).x = s.x := rfl
@[simp] theorem bindOperand_keyword_k (bytes : List Byte) (s : State) :
    (bindOperand .keyword bytes s).k = s.k := rfl
@[simp] theorem bindOperand_keyword_keyword (bytes : List Byte) (s : State) :
    (bindOperand .keyword bytes s).keyword = Space.ofBytes bytes := rfl
@[simp] theorem bindOperand_keyword_buffer (bytes : List Byte) (s : State) :
    (bindOperand .keyword bytes s).buffer = s.buffer := rfl
@[simp] theorem bindOperand_keyword_pending (bytes : List Byte) (s : State) :
    (bindOperand .keyword bytes s).pending = s.pending := rfl
@[simp] theorem bindOperand_keyword_readback (bytes : List Byte) (s : State) :
    (bindOperand .keyword bytes s).readback = s.readback := rfl
@[simp] theorem bindOperand_keyword_params (bytes : List Byte) (s : State) :
    (bindOperand .keyword bytes s).params = s.params := rfl
@[simp] theorem bindOperand_keyword_epoch (bytes : List Byte) (s : State) :
    (bindOperand .keyword bytes s).epoch = s.epoch := rfl

/-! ## bindOperand .buffer -/

@[simp] theorem bindOperand_buffer_kw (bytes : List Byte) (s : State) :
    (bindOperand .buffer bytes s).kw = s.kw := rfl
@[simp] theorem bindOperand_buffer_km (bytes : List Byte) (s : State) :
    (bindOperand .buffer bytes s).km = s.km := rfl
@[simp] theorem bindOperand_buffer_kr (bytes : List Byte) (s : State) :
    (bindOperand .buffer bytes s).kr = s.kr := rfl
@[simp] theorem bindOperand_buffer_kvalid (bytes : List Byte) (s : State) :
    (bindOperand .buffer bytes s).kvalid = s.kvalid := rfl
@[simp] theorem bindOperand_buffer_err (bytes : List Byte) (s : State) :
    (bindOperand .buffer bytes s).err = s.err := rfl
@[simp] theorem bindOperand_buffer_len (bytes : List Byte) (s : State) :
    (bindOperand .buffer bytes s).len = s.len := rfl
@[simp] theorem bindOperand_buffer_x (bytes : List Byte) (s : State) :
    (bindOperand .buffer bytes s).x = s.x := rfl
@[simp] theorem bindOperand_buffer_k (bytes : List Byte) (s : State) :
    (bindOperand .buffer bytes s).k = s.k := rfl
@[simp] theorem bindOperand_buffer_keyword (bytes : List Byte) (s : State) :
    (bindOperand .buffer bytes s).keyword = s.keyword := rfl
@[simp] theorem bindOperand_buffer_buffer (bytes : List Byte) (s : State) :
    (bindOperand .buffer bytes s).buffer = Space.ofBytes bytes := rfl
@[simp] theorem bindOperand_buffer_pending (bytes : List Byte) (s : State) :
    (bindOperand .buffer bytes s).pending = s.pending := rfl
@[simp] theorem bindOperand_buffer_readback (bytes : List Byte) (s : State) :
    (bindOperand .buffer bytes s).readback = s.readback := rfl
@[simp] theorem bindOperand_buffer_params (bytes : List Byte) (s : State) :
    (bindOperand .buffer bytes s).params = s.params := rfl
@[simp] theorem bindOperand_buffer_epoch (bytes : List Byte) (s : State) :
    (bindOperand .buffer bytes s).epoch = s.epoch := rfl

end Sys2Proof.Machine
end

