-- ==== Sys2Proof/Laws/Memory.lean ====
section
/-! SUPPORT. The laws of an operand space: a byte written is read back, every other byte is kept, every operation keeps
the canonical form, and two canonical spaces that read alike are equal. -/

namespace Sys2Proof.Machine

/-! ## Cells -/

/-- Every offset listed is at least `lo`. -/
abbrev CellsFrom (lo : Nat) (cells : List Host.Cell) : Prop := ∀ c ∈ cells, lo ≤ c.1

theorem readCells_of_lt {cells : List Host.Cell} {off : Nat} (h : ∀ c ∈ cells, off < c.1) :
    readCells cells off = unlistedByte := by
  induction cells with
  | nil => rfl
  | cons c rest ih =>
    have hc := h c (by simp)
    simp only [readCells]
    rw [if_neg (by omega)]
    exact ih fun d hd => h d (by simp [hd])

theorem mem_writeCells {cells : List Host.Cell} {off : Nat} {v : Byte} {c : Host.Cell}
    (h : c ∈ writeCells cells off v) : c ∈ cells ∨ (c = (off, v) ∧ v ≠ unlistedByte) := by
  induction cells with
  | nil =>
    simp only [writeCells] at h
    split at h <;> simp_all
  | cons d rest ih =>
    simp only [writeCells] at h
    split at h
    · split at h <;> simp_all
      tauto
    · split at h
      · split at h <;> simp_all
        tauto
      · rcases List.mem_cons.1 h with h | h
        · simp [h]
        · rcases ih h with h | h <;> simp_all

/-- Reading after writing, at every offset, on sorted cells. -/
theorem readCells_writeCells {cells : List Host.Cell} (hs : cells.Pairwise (fun c d => c.1 < d.1)) (off o : Nat)
    (v : Byte) : readCells (writeCells cells off v) o = if o = off then v else readCells cells o := by
  induction cells with
  | nil =>
    simp only [writeCells]
    split <;> simp_all [readCells, eq_comm]
  | cons d rest ih =>
    obtain ⟨hd, hr⟩ := List.pairwise_cons.1 hs
    have hlt : ∀ p, p ≤ d.1 → readCells rest p = unlistedByte := fun p hp =>
      readCells_of_lt fun c hc => lt_of_le_of_lt hp (hd c hc)
    simp only [writeCells]
    split
    · rename_i h1
      split
      · rename_i h2
        subst h2
        by_cases ho : o = off
        · subst ho
          simp [readCells, hlt o (by omega), show d.1 ≠ o by omega]
        · simp [ho]
      · by_cases ho : o = off
        · simp [readCells, ho]
        · simp [readCells, ho, show off ≠ o from fun h => ho h.symm]
    · split
      · rename_i h1 h2
        subst h2
        split
        · rename_i h3
          subst h3
          by_cases ho : o = d.1
          · simp [ho, hlt d.1 le_rfl]
          · simp [readCells, ho, show d.1 ≠ o from fun h => ho h.symm]
        · by_cases ho : o = d.1
          · simp [readCells, ho]
          · simp [readCells, ho, show d.1 ≠ o from fun h => ho h.symm]
      · simp only [readCells, ih hr]
        by_cases ho : d.1 = o
        · simp [ho]; intro h; omega
        · simp [ho]

theorem writeCells_sorted {cells : List Host.Cell} (hs : cells.Pairwise (fun c d => c.1 < d.1)) (off : Nat) (v : Byte) :
    (writeCells cells off v).Pairwise (fun c d => c.1 < d.1) := by
  induction cells with
  | nil => simp only [writeCells]; split <;> simp
  | cons d rest ih =>
    obtain ⟨hd, hr⟩ := List.pairwise_cons.1 hs
    simp only [writeCells]
    split
    · rename_i h1
      split
      · exact hs
      · refine List.pairwise_cons.2 ⟨?_, hs⟩
        intro c hc
        rcases List.mem_cons.1 hc with rfl | hc
        · exact h1
        · exact lt_trans h1 (hd c hc)
    · split
      · rename_i h1 h2
        split
        · exact hr
        · exact List.pairwise_cons.2 ⟨fun c hc => by simpa [h2] using hd c hc, hr⟩
      · refine List.pairwise_cons.2 ⟨?_, ih hr⟩
        intro c hc
        rcases mem_writeCells hc with hc | ⟨rfl, -⟩
        · exact hd c hc
        · show d.1 < off
          omega

/-- Sorted cells without unlisted bytes that read alike are the same list. -/
theorem cells_ext {xs ys : List Host.Cell} (hx : xs.Pairwise (fun c d => c.1 < d.1))
    (hy : ys.Pairwise (fun c d => c.1 < d.1)) (nx : ∀ c ∈ xs, c.2 ≠ unlistedByte) (ny : ∀ c ∈ ys, c.2 ≠ unlistedByte)
    (h : ∀ o, readCells xs o = readCells ys o) : xs = ys := by
  induction xs generalizing ys with
  | nil =>
    cases ys with
    | nil => rfl
    | cons d r => exact absurd (by simpa [readCells] using (h d.1).symm) (ny d (by simp))
  | cons c r ih =>
    cases ys with
    | nil => exact absurd (by simpa [readCells] using h c.1) (nx c (by simp))
    | cons d t =>
      obtain ⟨hc, hr⟩ := List.pairwise_cons.1 hx
      obtain ⟨hd, ht⟩ := List.pairwise_cons.1 hy
      have below_r : ∀ p, p ≤ c.1 → readCells r p = unlistedByte := fun p hp =>
        readCells_of_lt fun e he => lt_of_le_of_lt hp (hc e he)
      have below_t : ∀ p, p ≤ d.1 → readCells t p = unlistedByte := fun p hp =>
        readCells_of_lt fun e he => lt_of_le_of_lt hp (hd e he)
      have first : c.1 = d.1 := by
        rcases lt_trichotomy c.1 d.1 with hlt | heq | hgt
        · have := h c.1
          simp only [readCells, if_true, if_neg (show ¬ d.1 = c.1 by omega), below_t c.1 (by omega)] at this
          exact absurd this (nx c (by simp))
        · exact heq
        · have := h d.1
          simp only [readCells, if_true, if_neg (show ¬ c.1 = d.1 by omega), below_r d.1 (by omega)] at this
          exact absurd this.symm (ny d (by simp))
      have same : c.2 = d.2 := by
        have := h c.1
        simpa [readCells, first] using this
      have tails : r = t := by
        refine ih hr ht (fun e he => nx e (by simp [he])) (fun e he => ny e (by simp [he])) fun o => ?_
        by_cases ho : c.1 = o
        · rw [below_r o (by omega), below_t o (by omega)]
        · have := h o
          simpa [readCells, ho, show ¬ d.1 = o by omega] using this
      rw [tails, Prod.ext first same]

/-! ## A space -/

@[simp] theorem setByte_size (sp : Space) (off : Nat) (v : Byte) : (sp.setByte off v).size = sp.size := by
  unfold Space.setByte; split <;> rfl

@[simp] theorem setWord_size (sp : Space) (off : Nat) (v : Word) : (sp.setWord off v).size = sp.size := by
  simp [Space.setWord]

@[simp] theorem storeBlock_size (sp : Space) (b : Nat) (x : Block) : (sp.storeBlock b x).size = sp.size := by
  simp [Space.storeBlock]

@[simp] theorem ofBytes_size (bytes : List Byte) : (Space.ofBytes bytes).size = bytes.length := rfl

theorem setByte_wf {sp : Space} (h : sp.wf) (off : Nat) (v : Byte) : (sp.setByte off v).wf := by
  unfold Space.setByte
  split
  · rename_i hoff
    refine ⟨writeCells_sorted h.1 off v, fun c hc => ?_⟩
    rcases mem_writeCells hc with hc | ⟨rfl, hv⟩
    · exact h.2 c hc
    · exact ⟨hoff, hv⟩
  · exact h

theorem setWord_wf {sp : Space} (h : sp.wf) (off : Nat) (v : Word) : (sp.setWord off v).wf := by
  unfold Space.setWord
  exact setByte_wf (setByte_wf (setByte_wf (setByte_wf h _ _) _ _) _ _) _ _

theorem storeBlock_wf {sp : Space} (h : sp.wf) (b : Nat) (x : Block) : (sp.storeBlock b x).wf := by
  unfold Space.storeBlock
  exact setWord_wf (setWord_wf (setWord_wf (setWord_wf h _ _) _ _) _ _) _ _

theorem mem_cellsFrom {bytes : List Byte} {off : Nat} {c : Host.Cell} (h : c ∈ cellsFrom off bytes) :
    off ≤ c.1 ∧ c.1 < off + bytes.length ∧ c.2 ≠ unlistedByte := by
  induction bytes generalizing off with
  | nil => simp [cellsFrom] at h
  | cons v rest ih =>
    have later (hc : c ∈ cellsFrom (off + 1) rest) :
        off ≤ c.1 ∧ c.1 < off + (rest.length + 1) ∧ c.2 ≠ unlistedByte := by
      obtain ⟨h1, h2, h3⟩ := ih hc
      exact ⟨by omega, by omega, h3⟩
    simp only [cellsFrom] at h
    simp only [List.length_cons]
    split at h
    · exact later h
    · rename_i hv
      rcases List.mem_cons.1 h with rfl | h
      · exact ⟨le_rfl, by show off < _; omega, hv⟩
      · exact later h

theorem cellsFrom_sorted (bytes : List Byte) (off : Nat) : (cellsFrom off bytes).Pairwise (fun c d => c.1 < d.1) := by
  induction bytes generalizing off with
  | nil => simp [cellsFrom]
  | cons v rest ih =>
    simp only [cellsFrom]
    split
    · exact ih _
    · exact List.pairwise_cons.2 ⟨fun c hc => (mem_cellsFrom hc).1, ih _⟩

theorem ofBytes_wf (bytes : List Byte) : (Space.ofBytes bytes).wf :=
  ⟨cellsFrom_sorted bytes 0, fun _ hc => ⟨by simpa using (mem_cellsFrom hc).2.1, (mem_cellsFrom hc).2.2⟩⟩

theorem readCells_cellsFrom (bytes : List Byte) (off j : Nat) :
    readCells (cellsFrom off bytes) (off + j) = bytes.getD j unlistedByte := by
  induction bytes generalizing off j with
  | nil => simp [cellsFrom, readCells]
  | cons v rest ih =>
    have below : readCells (cellsFrom (off + 1) rest) off = unlistedByte :=
      readCells_of_lt fun c hc => (mem_cellsFrom hc).1
    have later (i : Nat) : readCells (cellsFrom (off + 1) rest) (off + (i + 1)) = rest.getD i unlistedByte := by
      rw [show off + (i + 1) = off + 1 + i by omega]; exact ih (off + 1) i
    cases j with
    | zero => simp only [cellsFrom]; split <;> simp_all [readCells]
    | succ i => simp only [cellsFrom]; split <;> simp_all [readCells]

/-- The space bound to a byte sequence holds byte `j` at offset `j`. -/
theorem ofBytes_byteAt (bytes : List Byte) (j : Nat) : (Space.ofBytes bytes).byteAt j = bytes.getD j unlistedByte := by
  simpa [Space.byteAt, Space.ofBytes] using readCells_cellsFrom bytes 0 j

/-- R10: what a byte write leaves at every offset. -/
theorem setByte_byteAt {sp : Space} (h : sp.wf) (off o : Nat) (v : Byte) :
    (sp.setByte off v).byteAt o = if o = off ∧ off < sp.size then v else sp.byteAt o := by
  unfold Space.setByte Space.byteAt
  split
  · rename_i hoff
    simp [readCells_writeCells h.1, hoff]
  · rename_i hoff
    simp [hoff]

/-- Two canonical spaces of one size that read alike are equal. -/
theorem space_ext {sp tp : Space} (hs : sp.wf) (ht : tp.wf) (hn : sp.size = tp.size)
    (h : ∀ o, sp.byteAt o = tp.byteAt o) : sp = tp := by
  obtain ⟨n, xs⟩ := sp
  obtain ⟨m, ys⟩ := tp
  obtain rfl : n = m := hn
  have same : xs = ys := cells_ext hs.1 ht.1 (fun c hc => (hs.2 c hc).2) (fun c hc => (ht.2 c hc).2) h
  rw [same]

/-! ## Words -/

/-- Four bytes cut from a word make the word again (R72). -/
theorem catBytes_wordByte (v : Word) : catBytes (wordByte v 0) (wordByte v 1) (wordByte v 2) (wordByte v 3) = v := by
  unfold catBytes wordByte
  apply BitVec.eq_of_getLsbD_eq
  intro i hi
  simp only [BitVec.getLsbD_append, BitVec.getLsbD_extractLsb']
  by_cases h1 : i < 8
  · simp [h1]
  · by_cases h2 : i < 16
    · simp [h1, show i - 8 < 8 by omega, show 8 + (i - 8) = i by omega]
    · by_cases h3 : i < 24
      · simp [h1, show ¬ i - 8 < 8 by omega, show i - 8 - 8 < 8 by omega, show 16 + (i - 8 - 8) = i by omega]
      · simp [h1, show ¬ i - 8 < 8 by omega, show ¬ i - 8 - 8 < 8 by omega, show i - 8 - 8 - 8 < 8 by omega,
          show 24 + (i - 8 - 8 - 8) = i by omega]

/-- A byte of a word made of four bytes is that byte (R72). -/
theorem wordByte_catBytes (b0 b1 b2 b3 : Byte) :
    wordByte (catBytes b0 b1 b2 b3) 0 = b0 ∧ wordByte (catBytes b0 b1 b2 b3) 1 = b1 ∧
    wordByte (catBytes b0 b1 b2 b3) 2 = b2 ∧ wordByte (catBytes b0 b1 b2 b3) 3 = b3 := by
  refine ⟨?_, ?_, ?_, ?_⟩ <;>
  · unfold catBytes wordByte
    apply BitVec.eq_of_getLsbD_eq
    intro i hi
    simp only [BitVec.getLsbD_append, BitVec.getLsbD_extractLsb']
    interval_cases i <;> simp

/-- The byte a word store leaves at every offset of a canonical space that holds all four bytes. -/
theorem setWord_byteAt {sp : Space} (h : sp.wf) {off : Nat} (hoff : off + 4 ≤ sp.size) (o : Nat) (v : Word) :
    (sp.setWord off v).byteAt o = if off ≤ o ∧ o < off + 4 then wordByte v (o - off) else sp.byteAt o := by
  unfold Space.setWord
  have w1 := setByte_wf h off (wordByte v 0)
  have w2 := setByte_wf w1 (off + 1) (wordByte v 1)
  have w3 := setByte_wf w2 (off + 2) (wordByte v 2)
  rw [setByte_byteAt w3, setByte_byteAt w2, setByte_byteAt w1, setByte_byteAt h]
  simp only [setByte_size]
  by_cases h3 : o = off + 3
  · subst h3; simp [show off + 3 < sp.size by omega]
  by_cases h2 : o = off + 2
  · subst h2; simp [show off + 2 < sp.size by omega]
  by_cases h1 : o = off + 1
  · subst h1; simp [show off + 1 < sp.size by omega]
  by_cases h0 : o = off
  · subst h0; simp [show o < sp.size by omega]
  · simp [h0, h1, h2, h3, show ¬ (off ≤ o ∧ o < off + 4) by omega]

/-- A word stored is read back. -/
theorem setWord_wordAt {sp : Space} (h : sp.wf) {off : Nat} (hoff : off + 4 ≤ sp.size) (v : Word) :
    (sp.setWord off v).wordAt off = v := by
  unfold Space.wordAt
  simp only [setWord_byteAt h hoff]
  simpa using catBytes_wordByte v

/-- A word store keeps every word that does not overlap it. -/
theorem setWord_wordAt_other {sp : Space} (h : sp.wf) {off p : Nat} (hoff : off + 4 ≤ sp.size)
    (hp : p + 4 ≤ off ∨ off + 4 ≤ p) (v : Word) : (sp.setWord off v).wordAt p = sp.wordAt p := by
  unfold Space.wordAt
  rw [setWord_byteAt h hoff, setWord_byteAt h hoff, setWord_byteAt h hoff, setWord_byteAt h hoff, if_neg (by omega),
    if_neg (by omega), if_neg (by omega), if_neg (by omega)]

/-! ## Blocks -/

/-- R202, R203: a block stored is loaded back. -/
theorem storeBlock_loadBlock {sp : Space} (h : sp.wf) {b : Nat} (hb : 16 * b + 16 ≤ sp.size) (x : Block) :
    (sp.storeBlock b x).loadBlock b = x := by
  have w1 := setWord_wf h (16 * b) x.a
  have w2 := setWord_wf w1 (16 * b + 4) x.b
  have w3 := setWord_wf w2 (16 * b + 8) x.c
  unfold Space.loadBlock Space.storeBlock
  congr 1
  · rw [setWord_wordAt_other w3 (by simp; omega) (by omega), setWord_wordAt_other w2 (by simp; omega) (by omega),
      setWord_wordAt_other w1 (by simp; omega) (by omega), setWord_wordAt h (by omega)]
  · rw [setWord_wordAt_other w3 (by simp; omega) (by omega), setWord_wordAt_other w2 (by simp; omega) (by omega),
      setWord_wordAt w1 (by simp; omega)]
  · rw [setWord_wordAt_other w3 (by simp; omega) (by omega), setWord_wordAt w2 (by simp; omega)]
  · rw [setWord_wordAt w3 (by simp; omega)]

/-- R203: a block store keeps every byte outside its 16 offsets. -/
theorem storeBlock_byteAt_other {sp : Space} (h : sp.wf) {b o : Nat} (hb : 16 * b + 16 ≤ sp.size)
    (ho : o < 16 * b ∨ 16 * b + 16 ≤ o) (x : Block) : (sp.storeBlock b x).byteAt o = sp.byteAt o := by
  have w1 := setWord_wf h (16 * b) x.a
  have w2 := setWord_wf w1 (16 * b + 4) x.b
  have w3 := setWord_wf w2 (16 * b + 8) x.c
  unfold Space.storeBlock
  rw [setWord_byteAt w3 (by simp; omega), if_neg (by omega), setWord_byteAt w2 (by simp; omega), if_neg (by omega),
    setWord_byteAt w1 (by simp; omega), if_neg (by omega), setWord_byteAt h (by omega), if_neg (by omega)]

/-- The block at an index is decided by its 16 bytes. -/
theorem loadBlock_congr {sp tp : Space} {b : Nat} (h : ∀ o, 16 * b ≤ o → o < 16 * b + 16 → sp.byteAt o = tp.byteAt o) :
    sp.loadBlock b = tp.loadBlock b := by
  unfold Space.loadBlock Space.wordAt
  congr 1 <;> congr 1 <;> exact h _ (by omega) (by omega)

/-- A block store keeps every other block. -/
theorem storeBlock_loadBlock_other {sp : Space} (h : sp.wf) {b c : Nat} (hb : 16 * b + 16 ≤ sp.size) (hc : c ≠ b)
    (x : Block) : (sp.storeBlock b x).loadBlock c = sp.loadBlock c :=
  loadBlock_congr fun _ h1 h2 => storeBlock_byteAt_other h hb (by omega) x

/-- The 16 bytes of a block are decided by the block. -/
theorem byteAt_of_loadBlock {sp tp : Space} {b o : Nat} (h : sp.loadBlock b = tp.loadBlock b) (h1 : 16 * b ≤ o)
    (h2 : o < 16 * b + 16) : sp.byteAt o = tp.byteAt o := by
  have word {off : Nat} (hw : sp.wordAt off = tp.wordAt off) (l : off ≤ o) (u : o < off + 4) :
      sp.byteAt o = tp.byteAt o := by
    obtain ⟨s0, s1, s2, s3⟩ :=
      wordByte_catBytes (sp.byteAt off) (sp.byteAt (off + 1)) (sp.byteAt (off + 2)) (sp.byteAt (off + 3))
    obtain ⟨t0, t1, t2, t3⟩ :=
      wordByte_catBytes (tp.byteAt off) (tp.byteAt (off + 1)) (tp.byteAt (off + 2)) (tp.byteAt (off + 3))
    unfold Space.wordAt at hw
    rcases (by omega : o = off ∨ o = off + 1 ∨ o = off + 2 ∨ o = off + 3) with rfl | rfl | rfl | rfl
    · rw [← s0, ← t0, hw]
    · rw [← s1, ← t1, hw]
    · rw [← s2, ← t2, hw]
    · rw [← s3, ← t3, hw]
  unfold Space.loadBlock at h
  injection h with ha hb hc hd
  rcases (by omega : o < 16 * b + 4 ∨ (16 * b + 4 ≤ o ∧ o < 16 * b + 8) ∨ (16 * b + 8 ≤ o ∧ o < 16 * b + 12) ∨
      16 * b + 12 ≤ o) with h' | h' | h' | h'
  · exact word ha h1 h'
  · exact word hb h'.1 (by omega)
  · exact word hc h'.1 (by omega)
  · exact word hd h' (by omega)

/-- The one block of a space that holds the 16 bytes of a block (R72). -/
theorem ofBytes_loadBlock (v : Vector Byte 16) : (Space.ofBytes v.toList).loadBlock 0 = blockOfBytes v := by
  have byte (j : Nat) (h : j < 16) : (Space.ofBytes v.toList).byteAt j = v[j] := by
    rw [ofBytes_byteAt, List.getD_eq_getElem _ _ (by simpa using h)]
    simp
  simp (disch := omega) only [Space.loadBlock, Space.wordAt, blockOfBytes, Nat.mul_zero, Nat.zero_add, Nat.reduceAdd, byte]

end Sys2Proof.Machine
end

