-- ==== Sys2Proof/Laws/Codec.lean ====
section
/-! SUPPORT. What the block loop of a transform does to the machine and to the buffer (spec R81, R204, R205). -/

namespace Sys2Proof.Machine

/-- One iteration of the loop on the buffer alone. -/
def blockStep (f : Block → Block) (sp : Space) (b : Nat) : Space := sp.storeBlock b (f (sp.loadBlock b))

/-- The loop on the buffer alone. -/
def codedSpace (f : Block → Block) (order : List Nat) (sp : Space) : Space := order.foldl (blockStep f) sp

/-- The loop writes `x` and the buffer and nothing else. -/
theorem transformBlocks_eq (f : Block → Block) (order : List Nat) (s : State) :
    ∃ x, transformBlocks f order s = { s with x := x, buffer := codedSpace f order s.buffer } := by
  induction order generalizing s with
  | nil => exact ⟨s.x, rfl⟩
  | cons b rest ih =>
    obtain ⟨x, hx⟩ := ih (transformBlock f s b)
    refine ⟨x, ?_⟩
    simp only [transformBlocks, List.foldl_cons] at hx ⊢
    rw [hx]
    simp only [transformBlock, stblk, ldblk, codedSpace, List.foldl_cons, blockStep]

/-- What a transform that runs leaves behind, before `ERR` is written. -/
theorem transformBody_eq (f : Block → Block) (s : State) :
    transformBody f s = { s with
      x := unspecifiedX s.epoch
      buffer := codedSpace f (List.range (blockCount s)) s.buffer
      epoch := s.epoch + 1 } := by
  obtain ⟨x, hx⟩ := transformBlocks_eq f (List.range (blockCount s)) s
  simp only [transformBody, hx, retireX]

theorem codedSpace_cons (f : Block → Block) (b : Nat) (rest : List Nat) (sp : Space) :
    codedSpace f (b :: rest) sp = codedSpace f rest (blockStep f sp b) := by
  simp only [codedSpace, List.foldl_cons]

@[simp] theorem blockStep_size (f : Block → Block) (sp : Space) (b : Nat) : (blockStep f sp b).size = sp.size := by
  simp only [blockStep, storeBlock_size]

theorem blockStep_wf {sp : Space} (h : sp.wf) (f : Block → Block) (b : Nat) : (blockStep f sp b).wf := by
  unfold blockStep
  exact storeBlock_wf h _ _

@[simp] theorem codedSpace_size (f : Block → Block) (order : List Nat) (sp : Space) :
    (codedSpace f order sp).size = sp.size := by
  induction order generalizing sp with
  | nil => rfl
  | cons b rest ih => rw [codedSpace_cons, ih, blockStep_size]

theorem codedSpace_wf {sp : Space} (h : sp.wf) (f : Block → Block) (order : List Nat) : (codedSpace f order sp).wf := by
  induction order generalizing sp with
  | nil => exact h
  | cons b rest ih => rw [codedSpace_cons]; exact ih (blockStep_wf h f b)

/-- The loop keeps every byte outside the blocks it runs over. -/
theorem codedSpace_byteAt_other {sp : Space} (h : sp.wf) (f : Block → Block) {order : List Nat}
    (fits : ∀ b ∈ order, 16 * b + 16 ≤ sp.size) {o : Nat} (ho : ∀ b ∈ order, o < 16 * b ∨ 16 * b + 16 ≤ o) :
    (codedSpace f order sp).byteAt o = sp.byteAt o := by
  induction order generalizing sp with
  | nil => rfl
  | cons b rest ih =>
    rw [codedSpace_cons, ih (blockStep_wf h f b) (fun c hc => by rw [blockStep_size]; exact fits c (by simp [hc]))
      (fun c hc => ho c (by simp [hc]))]
    unfold blockStep
    exact storeBlock_byteAt_other h (fits b (by simp)) (ho b (by simp)) _

/-- The loop over distinct blocks applies the block function once to each block of the list and to no other. -/
theorem codedSpace_loadBlock {sp : Space} (h : sp.wf) (f : Block → Block) {order : List Nat} (nodup : order.Nodup)
    (fits : ∀ b ∈ order, 16 * b + 16 ≤ sp.size) (c : Nat) :
    (codedSpace f order sp).loadBlock c = if c ∈ order then f (sp.loadBlock c) else sp.loadBlock c := by
  induction order generalizing sp with
  | nil => rw [if_neg (by simp)]; rfl
  | cons b rest ih =>
    obtain ⟨hb, hrest⟩ := List.nodup_cons.1 nodup
    rw [codedSpace_cons, ih (blockStep_wf h f b) hrest
      (fun d hd => by rw [blockStep_size]; exact fits d (by simp [hd]))]
    by_cases hc : c = b
    · subst hc
      rw [if_neg hb, if_pos (by simp)]
      unfold blockStep
      exact storeBlock_loadBlock h (fits c (by simp)) _
    · have keep : (blockStep f sp b).loadBlock c = sp.loadBlock c := by
        unfold blockStep
        exact storeBlock_loadBlock_other h (fits b (by simp)) hc _
      rw [keep]
      simp only [List.mem_cons, hc, false_or]

/-- Every block a ready transform runs over lies inside the bound buffer. -/
theorem block_fits {s : State} (h : lenBytes s ≤ s.buffer.size) :
    ∀ b ∈ List.range (blockCount s), 16 * b + 16 ≤ s.buffer.size := by
  intro b hb
  have := List.mem_range.1 hb
  unfold blockCount at this
  omega

end Sys2Proof.Machine
end

