-- ==== Sys2Proof/Laws/KeySchedule.lean ====
section
/-! SUPPORT. What the key-schedule expansion does to the machine (spec R130 to R137). -/

namespace Sys2Proof.Machine

/-- The pairs of quad-round `i` are the ones extracted from these working words (R134, R135). -/
def PairsFrom (k : KeyRegs) (m : KeyMaterial) (i : Fin 12) : Prop :=
  (m.mask i 0 = k.h ∧ m.mask i 1 = k.f ∧ m.mask i 2 = k.d ∧ m.mask i 3 = k.b) ∧
  (m.rot i 0 = low5 k.a ∧ m.rot i 1 = low5 k.c ∧ m.rot i 2 = low5 k.e ∧ m.rot i 3 = low5 k.g)

/-- One iteration of `EXPAND` writes `k`, `KM` and `KR` and nothing else. -/
theorem expandStep_eq (s : State) (i : Fin 12) :
    ∃ km kr, expandStep s i =
      { s with k := octave (2 * i.val + 1) (octave (2 * i.val) s.k), km := km, kr := kr } :=
  ⟨(expandStep s i).km, (expandStep s i).kr, by simp only [expandStep, kmExtract, krExtract, stepW]⟩

/-- One iteration of `EXPAND` gives the four pairs of its own quad-round. -/
theorem expandStep_pairs (s : State) (i : Fin 12) :
    PairsFrom (octave (2 * i.val + 1) (octave (2 * i.val) s.k)) (keyMaterial (expandStep s i)) i := by
  generalize hk : octave (2 * i.val + 1) (octave (2 * i.val) s.k) = k
  simp only [PairsFrom, KeyMaterial.mask, KeyMaterial.rot, keyMaterial, expandStep, kmExtract, krExtract, stepW, hk]
  simp

/-- One iteration of `EXPAND` keeps the pairs of every other quad-round. -/
theorem expandStep_other (s : State) {i j : Fin 12} (h : j ≠ i) (t : Fin 4) :
    (keyMaterial (expandStep s i)).mask j t = (keyMaterial s).mask j t ∧
    (keyMaterial (expandStep s i)).rot j t = (keyMaterial s).rot j t := by
  have hv : j.val ≠ i.val := fun e => h (Fin.ext e)
  have ht := t.isLt
  generalize hk : octave (2 * i.val + 1) (octave (2 * i.val) s.k) = k
  simp only [KeyMaterial.mask, KeyMaterial.rot, keyMaterial, expandStep, kmExtract, krExtract, stepW, hk]
  constructor <;>
  · repeat rw [Vector.getElem_set_ne (by omega) (by omega) (by omega)]

/-- `EXPAND` cut off after its first `n` iterations. -/
theorem expand_prefix (s : State) (n : Nat) (hn : n ≤ 12) :
    ∃ km kr, (quadIndexes.take n).foldl expandStep s = { s with k := octaves (2 * n) s.k, km := km, kr := kr } ∧
      ∀ i : Fin 12, i.val < n → PairsFrom (octaves (2 * i.val + 2) s.k) { km := km, kr := kr } i := by
  induction n with
  | zero => exact ⟨s.km, s.kr, rfl, fun i hi => absurd hi (by omega)⟩
  | succ n ih =>
    obtain ⟨km, kr, heq, hpairs⟩ := ih (by omega)
    have last : quadIndexes.take (n + 1) = quadIndexes.take n ++ [(⟨n, by omega⟩ : Fin 12)] := by
      have : n < 12 := by omega
      interval_cases n <;> rfl
    rw [last, List.foldl_append, List.foldl_cons, List.foldl_nil, heq]
    set t : State := { s with k := octaves (2 * n) s.k, km := km, kr := kr } with ht
    obtain ⟨km', kr', hstep⟩ := expandStep_eq t ⟨n, by omega⟩
    have hmat : keyMaterial (expandStep t ⟨n, by omega⟩) = { km := km', kr := kr' } := by rw [hstep]; rfl
    refine ⟨km', kr', by rw [hstep]; rfl, fun i hi => ?_⟩
    rw [← hmat]
    by_cases hin : i.val = n
    · have same : i = ⟨n, by omega⟩ := Fin.ext hin
      rw [same]
      exact expandStep_pairs t ⟨n, by omega⟩
    · have old := hpairs i (by omega)
      have keep := fun u => expandStep_other t (i := ⟨n, by omega⟩) (j := i) (fun e => hin (congrArg Fin.val e)) u
      have hm : keyMaterial t = { km := km, kr := kr } := rfl
      simp only [PairsFrom, hm, (keep 0).1, (keep 1).1, (keep 2).1, (keep 3).1, (keep 0).2, (keep 1).2, (keep 2).2,
        (keep 3).2] at old ⊢
      exact old

/-- R136: what `EXPAND` does. -/
theorem expand_eq (s : State) :
    ∃ km kr, expand s = { s with k := octaves 24 s.k, km := km, kr := kr } ∧
      ∀ i : Fin 12, PairsFrom (octaves (2 * i.val + 2) s.k) { km := km, kr := kr } i := by
  obtain ⟨km, kr, heq, h⟩ := expand_prefix s 12 le_rfl
  exact ⟨km, kr, heq, fun i => h i i.isLt⟩

/-- The normalized keyword of the machine's KEYWORD space and `LEN` (R130). -/
def normalizedKeyword (s : State) : Vector Byte 32 := Vector.ofFn fun j => keywordByte s j

/-- R137: what `DERIVEKEY` leaves when it runs, before `ERR` is written. -/
theorem deriveBody_eq (s : State) :
    ∃ km kr, deriveBody s = { s with
        kw := normalizedKeyword s
        km := km
        kr := kr
        kvalid := true
        k := unspecifiedK s.epoch
        epoch := s.epoch + 1 } ∧
      IsExpansion (normalizedKeyword s) { km := km, kr := kr } := by
  obtain ⟨km, kr, heq, h⟩ := expand_eq (loadk (normalize s))
  refine ⟨km, kr, ?_, ?_⟩
  · rw [deriveBody, heq]
    simp only [retireK, setKvalid, loadk, normalize, normalizedKeyword]
  · intro i
    exact h i

/-- Two expansions of one normalized keyword are the same key material. -/
theorem isExpansion_unique {kw : Vector Byte 32} {m n : KeyMaterial} (hm : IsExpansion kw m) (hn : IsExpansion kw n) :
    m = n := by
  have pairs (i : Fin 12) (t : Fin 4) : m.mask i t = n.mask i t ∧ m.rot i t = n.rot i t := by
    obtain ⟨⟨a0, a1, a2, a3⟩, r0, r1, r2, r3⟩ := hm i
    obtain ⟨⟨b0, b1, b2, b3⟩, q0, q1, q2, q3⟩ := hn i
    fin_cases t
    · exact ⟨a0.trans b0.symm, r0.trans q0.symm⟩
    · exact ⟨a1.trans b1.symm, r1.trans q1.symm⟩
    · exact ⟨a2.trans b2.symm, r2.trans q2.symm⟩
    · exact ⟨a3.trans b3.symm, r3.trans q3.symm⟩
  have pair (j : Nat) (hj : j < 48) : m.km[j] = n.km[j] ∧ m.kr[j] = n.kr[j] := by
    have h := pairs ⟨j / 4, by omega⟩ ⟨j % 4, by omega⟩
    simp only [KeyMaterial.mask, KeyMaterial.rot, show 4 * (j / 4) + j % 4 = j by omega] at h
    exact h
  obtain ⟨mk, mr⟩ := m
  obtain ⟨nk, nr⟩ := n
  rw [KeyMaterial.mk.injEq]
  exact ⟨Vector.ext fun j hj => (pair j hj).1, Vector.ext fun j hj => (pair j hj).2⟩

end Sys2Proof.Machine
end

