-- ==== Sys2Proof/Laws/Commands.lean ====
section
/-! SUPPORT. Everything issuing a command can do, and everything one step can do (spec R12, R201, R247). -/

namespace Sys2Proof.Machine

/-- What each command does once its check has passed, before `ERR` is written. -/
def commandBody : Instr → State → State
  | .derivekey => deriveBody
  | .xformE => encryptBody
  | .xformD => decryptBody

theorem exec_eq_issue (i : Instr) (s : State) : exec i s = issue i (commandBody i) s := by
  cases i <;> simp only [exec, execDerivekey, execXformE, execXformD, commandBody]

/-- A command that answers a next state either raised the error its check found, and changed nothing else, or ran on a
bound operand and completed. -/
theorem exec_next_cases {i : Instr} {s t : State} (h : exec i s = .next t) :
    (∃ e, commandCheck i s = some e ∧ t = raise e s) ∨
    (commandCheck i s = none ∧ operandBound i s = true ∧ t = complete (commandBody i s)) := by
  rw [exec_eq_issue, issue] at h
  split at h
  · rename_i e he
    injection h with h
    exact .inl ⟨e, he, h.symm⟩
  · rename_i he
    split at h
    · rename_i hb
      injection h with h
      exact .inr ⟨he, hb, h.symm⟩
    · exact absurd h (by simp)

theorem exec_of_error {i : Instr} {s : State} {e : ErrCode} (h : commandCheck i s = some e) :
    exec i s = .next (raise e s) := by
  rw [exec_eq_issue, issue, h]

theorem exec_of_ready {i : Instr} {s : State} (hc : commandCheck i s = none) (hb : operandBound i s = true) :
    exec i s = .next (complete (commandBody i s)) := by
  rw [exec_eq_issue, issue, hc]
  exact if_pos hb

/-- No command faults. -/
theorem exec_ne_fault (i : Instr) (s : State) (f : Fault) : exec i s ≠ .fault f := by
  rw [exec_eq_issue, issue]
  split
  · simp
  · split <;> simp

/-- The check of a transform passes on exactly these states (R201). -/
theorem transformCheck_none {s : State} : transformCheck s = none ↔ s.kvalid = true ∧ lenBytes s % 16 = 0 := by
  unfold transformCheck
  cases s.kvalid <;> simp

/-- The check of `DERIVEKEY` passes on exactly these states (R137). -/
theorem keyCheck_none {s : State} : keyCheck s = none ↔ lenBytes s ≤ s.params.klenMax := by
  simp [keyCheck]

/-- A check never finds the error code 0. -/
theorem commandCheck_ne_none {i : Instr} {s : State} {e : ErrCode} (h : commandCheck i s = some e) : e ≠ .none := by
  cases i <;> simp only [commandCheck, keyCheck, transformCheck] at h <;> split at h <;> try split at h
  all_goals simp_all
  all_goals rw [← h]; simp

/-- What a transform leaves when it runs. -/
theorem encryptBody_eq (s : State) :
    encryptBody s = { s with
      x := unspecifiedX s.epoch
      buffer := codedSpace (encblk (keyMaterial s)) (List.range (blockCount s)) s.buffer
      epoch := s.epoch + 1 } := transformBody_eq _ s

theorem decryptBody_eq (s : State) :
    decryptBody s = { s with
      x := unspecifiedX s.epoch
      buffer := codedSpace (decblk (keyMaterial s)) (List.range (blockCount s)) s.buffer
      epoch := s.epoch + 1 } := transformBody_eq _ s

/-- Everything one step that answers a next state can be. -/
theorem step_next_cases {s t : State} (h : step s = .next t) :
    ∃ m rest, s.pending = m :: rest ∧
      ((commandWord m = none ∧ hostMove m { s with pending := rest } = .next t) ∨
        (∃ w i, commandWord m = some w ∧ decode w = .ok i ∧ exec i { s with pending := rest } = .next t) ∨
        (∃ w r, commandWord m = some w ∧ decode w = .error r ∧ t = issueIllegal { s with pending := rest })) := by
  unfold step takeMove at h
  split at h
  · exact absurd h (by simp)
  · rename_i m s1 hm
    split at hm
    · exact absurd hm (by simp)
    · rename_i m' rest hp
      injection hm with hm
      injection hm with h1 h2
      subst h1 h2
      refine ⟨m', rest, hp, ?_⟩
      split at h
      · rename_i hw
        exact .inl ⟨hw, h⟩
      · rename_i w hw
        split at h
        · rename_i i hd
          exact .inr (.inl ⟨w, i, hw, hd, h⟩)
        · rename_i r hd
          injection h with h
          exact .inr (.inr ⟨w, r, hw, hd, h.symm⟩)

/-- A step whose host writes a word to `CMD`. -/
theorem step_command {s : State} {w : Word} {rest : List HostMove} (h : s.pending = .writeReg 0 w :: rest) :
    step s = match decode w with
      | .ok i => exec i { s with pending := rest }
      | .error _ => .next (issueIllegal { s with pending := rest }) := by
  have ht : takeMove s = some (.writeReg 0 w, { s with pending := rest }) := by simp only [takeMove, h]
  have hc : commandWord (.writeReg 0 w) = some w := by simp only [commandWord, cmdReg, if_true]
  cases hd : decode w with
  | ok i => simp only [step, ht, hc, hd]
  | error r => simp only [step, ht, hc, hd]

/-- A step whose host makes a move that issues no command. -/
theorem step_hostMove {s : State} {m : HostMove} {rest : List HostMove} (h : s.pending = m :: rest)
    (hc : commandWord m = none) : step s = hostMove m { s with pending := rest } := by
  have ht : takeMove s = some (m, { s with pending := rest }) := by simp only [takeMove, h]
  simp only [step, ht, hc]

/-- The word of a command, written to `CMD`, runs that command (R40, R101). -/
theorem step_encode {s : State} {i : Instr} {rest : List HostMove} (h : s.pending = .writeReg cmdReg (encode i) :: rest) :
    step s = exec i { s with pending := rest } := by
  have hd : decode (encode i) = .ok i := by cases i <;> decide
  simp only [step_command h, hd]

/-- R110: the first move of a program line binds its operand. -/
theorem step_line_operand {s : State} {l : Line} {rest : List HostMove} (h : s.pending = lineMoves l ++ rest) :
    step s = .next (bindOperand (operandSpace l.command) l.operand { s with
      pending := .writeReg lenReg (BitVec.ofNat 32 l.operand.length) :: .writeReg cmdReg (encode l.command) ::
        .readReg statusReg :: rest }) := by
  simp only [lineMoves, List.cons_append, List.nil_append] at h
  rw [step_hostMove h rfl, hostMove]

/-- R42: a write of `LEN` by the host, as a step. -/
theorem step_writeLen {s : State} {v : Word} {rest : List HostMove} (h : s.pending = .writeReg lenReg v :: rest) :
    step s = .next (writeLen v { s with pending := rest }) := by
  rw [step_hostMove h (by simp [commandWord, lenReg, cmdReg]), hostMove, writeRegister, if_pos rfl]

/-- R41: a read of `STATUS` by the host, as a step. -/
theorem step_readStatus {s : State} {rest : List HostMove} (h : s.pending = .readReg statusReg :: rest) :
    step s = .next { s with pending := rest, readback := some (statusWord s) } := by
  rw [step_hostMove h rfl, hostMove]
  rfl

end Sys2Proof.Machine
end

