-- ==== Sys2Proof/Laws/PerInstr.lean ====
section
/-! SUPPORT. Statements made for every command, one lemma per constructor of `Instr`. -/

namespace Sys2Proof.Laws.CommandFields

/-- The fields of a command are well formed, and they are what its command word is split into (R100, R101). -/
def Statement (i : Instr) : Prop := i.fields.wf = true ∧ CmdFields.ofWord (encode i) = i.fields

theorem derivekey : Statement .derivekey := by unfold Statement; decide

theorem xformE : Statement .xformE := by unfold Statement; decide

theorem xformD : Statement .xformD := by unfold Statement; decide

end Sys2Proof.Laws.CommandFields
end

