-- ==== Sys2Proof/Tests/Slice0.lean ====
section
/-! SUPPORT. Tests of the model against the worked examples and vectors of the spec (95_test_vectors.md), the smoke test
of the well-formedness checks, and a witness for the hypotheses of every statement that has some. -/

namespace Sys2Proof.Tests

open Sys2Proof Sys2Proof.Machine

/-! ## Well-formedness: one ill-formed term for each check (R100 to R102) -/

theorem test_wf_accepts_derivekey : CmdFields.wf { reserved := 0, dir := 0, op := 0x01 } = true := by decide

theorem test_wf_refuses_reserved_bit : CmdFields.wf { reserved := 1, dir := 0, op := 0x02 } = false := by decide

theorem test_wf_refuses_unknown_op : CmdFields.wf { reserved := 0, dir := 0, op := 0x03 } = false := by decide

theorem test_wf_refuses_dir_on_derivekey : CmdFields.wf { reserved := 0, dir := 1, op := 0x01 } = false := by decide

/-! ## Decoding: the words of R101 bit by bit, and the illegal words of V50 -/

/-- `OP = 0x01`, `DIR = 0`. -/
theorem test_decode_derivekey : decode 0b00000000000000000000000000000001#32 = .ok .derivekey := by decide

/-- `OP = 0x02`, `DIR = 0`. -/
theorem test_decode_xformE : decode 0b00000000000000000000000000000010#32 = .ok .xformE := by decide

/-- `OP = 0x02`, `DIR = 1`: bit 8 set. -/
theorem test_decode_xformD : decode 0b00000000000000000000000100000010#32 = .ok .xformD := by decide

theorem test_decode_refuses_V50 :
    decode 0x00000000 = .error .unknownOp ∧ decode 0x00000101 = .error .dirOnDerivekey ∧
    decode 0x00000103 = .error .unknownOp ∧ decode 0x00000202 = .error .reservedBits ∧
    decode 0x80000001 = .error .reservedBits ∧ decode 0x000000ff = .error .unknownOp ∧
    decode 0xffffffff = .error .reservedBits := by decide

theorem test_encode_words :
    encode .derivekey = 0x00000001 ∧ encode .xformE = 0x00000002 ∧ encode .xformD = 0x00000102 := by decide

theorem test_decodeTableWord : decodeTableWord 32 258 = some .xformD ∧ decodeTableWord 32 3 = none := by decide

/-! ## The primitives and the constant tables -/

/-- V4: rotation by 31, by 1 with the top bit set, and by 0. -/
theorem test_rotl32_V4 :
    rotl32 0x12345678 31 = 0x091a2b3c ∧ rotl32 0x80000001 1 = 0x00000003 ∧ rotl32 0x12345678 0 = 0x12345678 := by decide

/-- V5: `low5(df5265be) = 30` and `low5(ffffffe0) = 0`. -/
theorem test_low5_V5 : low5 0xdf5265be = 30 ∧ low5 0xffffffe0 = 0 := by decide

/-- V7: the lookups for `cccad413`. -/
theorem test_sboxsub_V7 :
    sboxsub 0xcccad413 = { s1 := 0xd47c27af, s2 := 0xb7ffce3f, s3 := 0x4264a5ff, s4 := 0x0cc32220 } := by decide +kernel

/-- V9 and V13: the sum wraps, and `F3` is mask minus data. -/
theorem test_round_functions_V9_V13 :
    f1 0xffffffff 31 1 = 0x3f9e9220 ∧ f2 0xffffffff 31 1 = 0xf97ed6cd ∧ f3 0xffffffff 31 1 = 0xbe3da94a ∧
    f3 1 0 0xffffffff = 0x100a9f72 := by decide +kernel

/-- R230: first and last entries, and the first entry of the second printed row. -/
theorem test_sbox_entries :
    Config.entry Config.s1 0x00 = 0x30fb40d4 ∧ Config.entry Config.s1 0x08 = 0xbfd4af27 ∧
    Config.entry Config.s2 0xff = 0x4523ecf1 ∧ Config.entry Config.s3 0xff = 0xee353783 ∧
    Config.entry Config.s4 0xff = 0x0aef7ed2 := by decide +kernel

/-- V14: samples of the schedule constants. -/
theorem test_schedule_constants_V14 :
    Config.tm 7 23 = 0x0f1946b8 ∧ Config.tm 3 4 = 0x824db09c ∧ Config.tr 7 23 = 2 ∧ Config.tr 3 4 = 6 ∧
    Config.tr 2 12 = 21 := by decide

/-- V17: the first octave of the zero key. -/
theorem test_octave_V17 :
    octave 0 { a := 0, b := 0, c := 0, d := 0, e := 0, f := 0, g := 0, h := 0 } =
      { a := 0x8acf2d6c, b := 0x783b8667, c := 0x738ce851, d := 0xd0a9f64f,
        e := 0xaecf5626, f := 0x7b235834, g := 0x2de265b1, h := 0xcefd80d2 } := by decide +kernel

/-! ## The commands, one step each -/

/-- The outcome is a next state with this property. -/
def nextHas (o : Host.Outcome State Fault Refusal) (p : State → Bool) : Bool :=
  match o with
  | .next t => p t
  | .fault _ => false
  | .refused _ => false

/-- The 32-byte keyword of V3. -/
def keywordV3 : List Byte :=
  [0x23, 0x42, 0xbb, 0x9e, 0xfa, 0x38, 0x54, 0x2c, 0xbe, 0xd0, 0xac, 0x83, 0x94, 0x0a, 0xc2, 0x98,
    0x8d, 0x7c, 0x47, 0xce, 0x26, 0x49, 0x08, 0x46, 0x1c, 0xc1, 0xb5, 0x13, 0x7a, 0xe6, 0xb6, 0x04]

/-- The 16-byte keyword of V1. -/
def keywordV1 : List Byte :=
  [0x23, 0x42, 0xbb, 0x9e, 0xfa, 0x38, 0x54, 0x2c, 0x0a, 0xf7, 0x56, 0x47, 0xf2, 0x9f, 0x61, 0x5d]

/-- The machine after reset with a keyword bound and its length written. -/
def withKeyword (bytes : List Byte) : State :=
  { State.reset with keyword := Space.ofBytes bytes, len := BitVec.ofNat 32 bytes.length }

/-- The machine after `DERIVEKEY` of a keyword, with a buffer bound and its length written. -/
def withBuffer (keyword bytes : List Byte) : State :=
  { complete (deriveBody (withKeyword keyword)) with
    buffer := Space.ofBytes bytes
    len := BitVec.ofNat 32 bytes.length }

/-- The block of V33. -/
def blockV33 : List Byte :=
  [0x00, 0x11, 0x22, 0x33, 0x44, 0x55, 0x66, 0x77, 0x88, 0x99, 0xaa, 0xbb, 0xcc, 0xdd, 0xee, 0xff]

/-- V21: `DERIVEKEY` of the 32-byte key. -/
theorem test_derivekey_V21 :
    nextHas (exec .derivekey (withKeyword keywordV3)) (fun t =>
      t.km[0] == 0x420b1cef && t.kr[0] == 8 && t.km[47] == 0x0579675f && t.kr[47] == 2 && t.kr[37] == 0 &&
      statusWord t == 0x00000001) = true := by decide +kernel

/-- V20: `DERIVEKEY` with `LEN = 0` gives the key material of the zero key. -/
theorem test_derivekey_empty_V20 :
    nextHas (exec .derivekey State.reset) (fun t =>
      t.km[44] == 0x81480ff1 && t.km[47] == 0x22aa9c38 && t.kr[44] == 26 && t.kr[47] == 15 && t.kvalid) = true := by
  decide +kernel

/-- V3: the published known answer for a 256-bit key. -/
theorem test_xformE_V3 :
    nextHas (exec .xformE (withBuffer keywordV3 (List.replicate 16 0))) (fun t =>
      t.buffer.blockAt 0 == 0x4f6a2038286897b9c9870136553317fa) = true := by decide +kernel

/-- V40: the keyword "abc", two equal blocks. -/
theorem test_xformE_V40 :
    nextHas (exec .xformE (withBuffer [0x61, 0x62, 0x63] (blockV33 ++ blockV33))) (fun t =>
      t.buffer.blockAt 0 == 0xaf839f37db9b8d747b4fb5c7481f4f85 &&
      t.buffer.blockAt 16 == 0xaf839f37db9b8d747b4fb5c7481f4f85) = true := by decide +kernel

/-- V34: decryption of the zero block under the zero key. -/
theorem test_xformD_V34 :
    nextHas (exec .xformD (withBuffer [] (List.replicate 16 0))) (fun t =>
      t.buffer.blockAt 0 == 0x73bd712e761a7fcf50f13e7fdc49ffb3) = true := by decide +kernel

/-- V45: with no key and a bad length the error is NoKey. -/
theorem test_xformD_no_key_V45 :
    nextHas (exec .xformD { State.reset with len := 17 }) (fun t => statusWord t == 0x00000030) = true := by
  decide +kernel

/-! ## The host's moves -/

/-- V52: at `LENW = 16` a write of 00012345 leaves 00002345. -/
theorem test_len_write_V52 :
    (writeRegister 2 0x00012345 { State.reset with params := { lenw := 16, klenMax := 64 } }).len = 0x00002345 := by
  decide

/-- V51: an illegal word with no key, from reset. -/
theorem test_illegal_V51 :
    nextHas (step (State.withFetchWord State.reset 32 0)) (fun t => statusWord t == 0x00000040) = true := by
  decide +kernel

/-- V51: `LEN > KLEN_MAX` with no earlier key and a reduced `KLEN_MAX`. -/
theorem test_long_keyword_V51 :
    nextHas (exec .derivekey { State.reset with params := { lenw := 32, klenMax := 64 }, len := 65 })
      (fun t => statusWord t == 0x00000010) = true := by decide +kernel

/-- The step after reset runs the command placed for it. -/
theorem test_step_runs_placed_word :
    nextHas (step (State.withFetchWord State.reset 32 1)) (fun t => statusWord t == 0x00000001) = true := by
  decide +kernel

/-- R110: the four moves of a program line of the command `XFORM.D`. -/
theorem test_line_moves :
    lineMoves { command := .xformD, operand := [0xaa] } =
      [.bindOperand .buffer [0xaa], .writeReg 2 1, .writeReg 0 0x00000102, .readReg 1] := by decide

/-! ## Witnesses: the hypotheses of every statement can be met -/

/-- The machine whose host has one move to make. -/
def withMove (m : HostMove) (s : State) : State := { s with pending := [m] }

/-- A keyed machine with two blocks bound (`KVALID` is written out so that no check has to expand a key). -/
def twoBlocks : State := { withBuffer [] (blockV33 ++ List.replicate 16 0) with kvalid := true }

/-- A machine with a reduced `KLEN_MAX` and a keyword one byte longer. -/
def longKeyword : State := { State.reset with params := { lenw := 32, klenMax := 64 }, len := 65 }

theorem derive_next {s : State} (h : DeriveReady s) : exec .derivekey s = .next (complete (deriveBody s)) :=
  exec_of_ready (i := .derivekey) (keyCheck_none.2 h.1) (by simpa [operandBound, keywordBytes] using h.2)

theorem encrypt_next {s : State} (h : TransformReady s) : exec .xformE s = .next (complete (encryptBody s)) :=
  exec_of_ready (i := .xformE) (transformCheck_none.2 ⟨h.1, h.2.1⟩) (by simpa [operandBound] using h.2.2)

theorem no_key_next : exec .xformE State.reset = .next (raise .noKey State.reset) :=
  exec_of_error (i := .xformE) (by decide)

theorem long_keyword_next : exec .derivekey longKeyword = .next (raise .invalidKeyLength longKeyword) :=
  exec_of_error (i := .derivekey) (by decide)

theorem witness_OtherWordsRaiseIllegalCommand :
    (withMove (.writeReg 0 0x00000101) State.reset).pending = .writeReg 0 0x00000101 :: [] ∧
    (0x00000101 : Word) ≠ 1 ∧ (0x00000101 : Word) ≠ 2 ∧ (0x00000101 : Word) ≠ 0x102 := by decide

theorem witness_StepRunsTheDecodedCommand :
    (withMove (.writeReg 0 0x00000102) State.reset).pending = .writeReg 0 0x00000102 :: [] ∧
    decode 0x00000102 = .ok .xformD := by decide

/-- The block of V33 as the operand of `ENCBLK` and of `DECBLK`. -/
def blkV33 : Vector Byte 16 := ⟨blockV33.toArray, by decide⟩

/-- A keyed machine whose host runs one pseudo-command. -/
def withPseudo (p : Pseudo) : State := { twoBlocks with pending := pseudoMoves p }

theorem witness_BlockPseudoCommandsAreBlockFunctions :
    twoBlocks.params.wf ∧ twoBlocks.kvalid = true ∧
    (withPseudo (.encblk blkV33)).pending = pseudoMoves (.encblk blkV33) ++ [] ∧
    (withPseudo (.decblk blkV33)).pending = pseudoMoves (.decblk blkV33) ++ [] := by decide +kernel

theorem witness_NoMoveNoStep : State.reset.pending = [] := by decide

theorem witness_LenRegister :
    (withMove (.writeReg 2 0xffffffff) State.reset).pending = .writeReg 2 0xffffffff :: [] ∧
    (withMove (.readReg 2) State.reset).pending = .readReg 2 :: [] ∧
    exec .xformE State.reset = .next (raise .noKey State.reset) := ⟨rfl, rfl, no_key_next⟩

theorem witness_StatusRegister :
    (withMove (.readReg 1) State.reset).pending = .readReg 1 :: [] ∧
    (withMove (.writeReg 1 0xffffffff) State.reset).pending = .writeReg 1 0xffffffff :: [] ∧
    exec .xformE State.reset = .next (raise .noKey State.reset) := ⟨rfl, rfl, no_key_next⟩

theorem witness_CmdReadsAsZero : (withMove (.readReg 0) State.reset).pending = .readReg 0 :: [] := by decide

theorem witness_OtherNumbersAreNoRegister :
    2 < 3 ∧ (withMove (.writeReg 3 1) State.reset).pending = .writeReg 3 1 :: [] ∧
    (withMove (.readReg 3) State.reset).pending = .readReg 3 :: [] := by decide

theorem witness_ReadsHaveNoSideEffect : (withMove (.readReg 2) State.reset).pending = .readReg 2 :: [] := by decide

theorem witness_BindOperandHoldsTheBytes :
    (withMove (.bindOperand .keyword [0x61]) State.reset).pending = .bindOperand .keyword [0x61] :: [] ∧
    (withMove (.bindOperand .buffer [0, 5]) State.reset).pending = .bindOperand .buffer [0, 5] :: [] ∧
    0 < [(0x61 : Byte)].length := by decide

theorem witness_ResetMoveDestroysTheInstance : (withMove .reset State.reset).pending = .reset :: [] := by decide

theorem witness_ResetDuringACommand :
    SpacesCanonical (withMove (.resetDuring 2) twoBlocks) ∧
    (withMove (.resetDuring 2) twoBlocks).pending = .resetDuring 2 :: [] ∧ decode 2 = .ok .xformE ∧
    commandCheck .xformE (withMove (.resetDuring 2) twoBlocks) = none ∧
    operandBound .xformE (withMove (.resetDuring 2) twoBlocks) = true := by decide +kernel

theorem witness_ResetDuringACommand_derivekey :
    SpacesCanonical (withMove (.resetDuring 1) State.reset) ∧
    (withMove (.resetDuring 1) State.reset).pending = .resetDuring 1 :: [] ∧ decode 1 = .ok .derivekey ∧
    commandCheck .derivekey (withMove (.resetDuring 1) State.reset) = none ∧
    operandBound .derivekey (withMove (.resetDuring 1) State.reset) = true := by decide

theorem witness_RotationMovesEveryBit : (31 : Rot) ≠ 0 ∧ (1 : Rot) ≠ 0 ∧ 31 < 32 := by decide

/-- The empty keyword, and the longest one at the default parameters with only 32 bytes bound. -/
theorem witness_DerivekeyCompletes :
    DeriveReady State.reset ∧ DeriveReady { withKeyword keywordV3 with len := 0xffffffff } := by decide +kernel

theorem witness_DerivekeyFrame :
    exec .derivekey State.reset = .next (complete (deriveBody State.reset)) ∧
    exec .derivekey longKeyword = .next (raise .invalidKeyLength longKeyword) ∧
    (raise .invalidKeyLength longKeyword).err ≠ .none :=
  ⟨derive_next (by decide), long_keyword_next, by decide⟩

theorem witness_LongKeywordRaisesInvalidKeyLength :
    longKeyword.params.klenMax < lenBytes longKeyword ∧ State.reset.params = Params.default := by decide

/-- "abc", and "abc" followed by a zero byte (V24). -/
theorem witness_EquivalentKeywordsGiveOneKey :
    DeriveReady (withKeyword [0x61, 0x62, 0x63]) ∧ DeriveReady (withKeyword [0x61, 0x62, 0x63, 0]) ∧
    ∀ j, j < 32 → keywordByte (withKeyword [0x61, 0x62, 0x63]) j = keywordByte (withKeyword [0x61, 0x62, 0x63, 0]) j := by
  decide +kernel

/-- The keyword of V3, the 16-byte keyword of V1 with its zero padding, and the empty keyword. -/
theorem witness_KnownAnswers :
    (DeriveReady (withKeyword keywordV3) ∧
      KeywordIs (withKeyword keywordV3) 0x2342bb9efa38542cbed0ac83940ac2988d7c47ce264908461cc1b5137ae6b604) ∧
    (DeriveReady (withKeyword keywordV1) ∧
      KeywordIs (withKeyword keywordV1) 0x2342bb9efa38542c0af75647f29f615d00000000000000000000000000000000) ∧
    (DeriveReady State.reset ∧ KeywordIs State.reset 0) := by decide +kernel

theorem witness_BlocksAreBigEndian :
    (Space.ofBytes blockV33).wf ∧ 16 * 0 + 16 ≤ (Space.ofBytes blockV33).size ∧ 3 < 4 := by decide

/-- The length 17 with no key, and 17 and 15 with one. -/
theorem witness_TransformChecksInOrder :
    ({ State.reset with len := 17 } : State).kvalid = false ∧
    ({ twoBlocks with len := 17 } : State).kvalid = true ∧ lenBytes { twoBlocks with len := 17 } % 16 ≠ 0 ∧
    lenBytes { twoBlocks with len := 15 } % 16 ≠ 0 := by decide

theorem witness_XformEncryptCompletes : twoBlocks.buffer.wf ∧ TransformReady twoBlocks ∧ 1 < lenBytes twoBlocks / 16 := by
  decide +kernel

theorem witness_XformDecryptCompletes :
    ({ twoBlocks with len := 16 } : State).buffer.wf ∧ TransformReady { twoBlocks with len := 16 } ∧
    lenBytes { twoBlocks with len := 16 } ≤ 16 := by decide +kernel

theorem witness_TransformFrame :
    twoBlocks.buffer.wf ∧ exec .xformE twoBlocks = .next (complete (encryptBody twoBlocks)) ∧
    OutsideBlocks { twoBlocks with len := 16 } 16 ∧ State.reset.buffer.wf ∧
    exec .xformE State.reset = .next (raise .noKey State.reset) ∧ (raise .noKey State.reset).err ≠ .none :=
  ⟨by decide, encrypt_next (by decide +kernel), by decide, by decide, no_key_next, by decide⟩

theorem witness_EmptyBufferCompletes :
    ({ twoBlocks with len := 0 } : State).kvalid = true ∧ ({ twoBlocks with len := 0 } : State).len = 0 := by decide

theorem witness_ShortBindingIsRefused :
    (commandCheck .derivekey { State.reset with len := 1 } = none ∧
      operandBound .derivekey { State.reset with len := 1 } = false) ∧
    (commandCheck .xformE { twoBlocks with len := 48 } = none ∧
      operandBound .xformE { twoBlocks with len := 48 } = false) ∧
    (commandCheck .xformD { twoBlocks with len := 48 } = none ∧
      operandBound .xformD { twoBlocks with len := 48 } = false) := by decide +kernel

theorem witness_BlocksAreIndependent :
    twoBlocks.buffer.wf ∧ TransformReady twoBlocks ∧ keyMaterial twoBlocks = keyMaterial twoBlocks ∧
    0 < lenBytes twoBlocks / 16 ∧ 1 < lenBytes twoBlocks / 16 :=
  ⟨by decide, by decide +kernel, rfl, by decide, by decide⟩

theorem witness_BlockOrderIsImmaterial :
    twoBlocks.buffer.wf ∧ lenBytes twoBlocks ≤ twoBlocks.buffer.size ∧
    [1, 0].Perm (List.range (blockCount twoBlocks)) := by decide +kernel

theorem witness_TransformsRoundTrip : twoBlocks.buffer.wf ∧ TransformReady twoBlocks := by decide +kernel

theorem witness_RoundTripAcrossRekeying :
    let a := withKeyword [0x61, 0x62, 0x63]
    let b := withKeyword [0x61, 0x62, 0x63, 0]
    let c := withBuffer [0x61, 0x62, 0x63] blockV33
    let c' := complete (encryptBody c)
    let d := { complete (deriveBody b) with buffer := c'.buffer, len := c'.len }
    DeriveReady a ∧ DeriveReady b ∧ (∀ j, j < 32 → keywordByte a j = keywordByte b j) ∧
    exec .derivekey a = .next (complete (deriveBody a)) ∧ exec .derivekey b = .next (complete (deriveBody b)) ∧
    c.buffer.wf ∧ TransformReady c ∧ keyMaterial c = keyMaterial (complete (deriveBody a)) ∧
    exec .xformE c = .next c' ∧ d.kvalid = true ∧ keyMaterial d = keyMaterial (complete (deriveBody b)) ∧
    d.len = c'.len ∧ d.buffer = c'.buffer :=
  ⟨witness_EquivalentKeywordsGiveOneKey.1, witness_EquivalentKeywordsGiveOneKey.2.1,
    witness_EquivalentKeywordsGiveOneKey.2.2, derive_next (by decide), derive_next (by decide), by decide,
    by decide +kernel, rfl, encrypt_next (by decide +kernel), by decide +kernel, rfl, rfl, rfl⟩

theorem witness_ErrorsChangeOnlyErr :
    (withMove (.writeReg 0 2) State.reset).pending = .writeReg 0 2 :: [] ∧
    step (withMove (.writeReg 0 2) State.reset) = .next (raise .noKey State.reset) ∧
    (raise .noKey State.reset).err ≠ .none := by
  refine ⟨rfl, ?_, by decide⟩
  rw [step_command (w := 2) (rest := []) rfl, show decode 2 = .ok .xformE by decide]
  exact no_key_next

theorem witness_KwIsNeverRead : DeriveReady State.reset := by decide

/-- A step that sets `KVALID`, and a reset that clears it. -/
theorem witness_KvalidChangesOnlyByDerivekeyOrReset :
    (step (withMove (.writeReg 0 1) State.reset) = .next (complete (deriveBody State.reset)) ∧
      State.reset.kvalid = false ∧ (complete (deriveBody State.reset)).kvalid = true) ∧
    (step (withMove .reset twoBlocks) = .next (engineReset { twoBlocks with pending := [] }) ∧
      twoBlocks.kvalid = true ∧ (engineReset { twoBlocks with pending := [] }).kvalid = false) := by
  refine ⟨⟨?_, by decide, by decide +kernel⟩, rfl, by decide, by decide⟩
  rw [step_command (w := 1) (rest := []) rfl, show decode 1 = .ok .derivekey by decide]
  exact derive_next (by decide)

theorem witness_KeyMaterialIsImmutable :
    (withMove (.writeReg 2 16) State.reset).pending = .writeReg 2 16 :: [] ∧
    step (withMove (.writeReg 2 16) State.reset) = .next (writeLen 16 State.reset) ∧
    (HostMove.writeReg 2 16 ≠ .writeReg 0 1) ∧ (HostMove.writeReg 2 16 ≠ .reset) ∧
    (∀ w, HostMove.writeReg 2 16 ≠ .resetDuring w) := ⟨rfl, rfl, by decide, by decide, by simp⟩

/-- A step that changes the KEYWORD space, and one that changes the BUFFER space. -/
theorem witness_StepsReachOnlyTheirSpace :
    (step (withMove (.bindOperand .keyword [1]) State.reset) = .next (bindOperand .keyword [1] State.reset) ∧
      (bindOperand .keyword [1] State.reset).keyword ≠ State.reset.keyword) ∧
    (step (withMove (.bindOperand .buffer [1]) State.reset) = .next (bindOperand .buffer [1] State.reset) ∧
      (bindOperand .buffer [1] State.reset).buffer ≠ State.reset.buffer) := ⟨⟨rfl, by decide⟩, rfl, by decide⟩

theorem witness_StepKeepsSpacesCanonical :
    SpacesCanonical (withMove (.bindOperand .keyword [0, 1]) State.reset) ∧
    step (withMove (.bindOperand .keyword [0, 1]) State.reset) = .next (bindOperand .keyword [0, 1] State.reset) :=
  ⟨by decide, rfl⟩

theorem witness_StepKeepsKeyConsistent :
    KeyConsistent (withMove (.writeReg 0 1) State.reset) ∧
    step (withMove (.writeReg 0 1) State.reset) = .next (complete (deriveBody State.reset)) :=
  ⟨fun h => absurd h (by decide), witness_KvalidChangesOnlyByDerivekeyOrReset.1.1⟩

/-- The narrowest `LEN`. -/
theorem witness_StepKeepsLenInRange :
    let s : State := { State.reset with params := { lenw := 7, klenMax := 127 } }
    LenInRange (withMove (.writeReg 2 0xffffffff) s) ∧
    step (withMove (.writeReg 2 0xffffffff) s) = .next (writeLen 0xffffffff s) := ⟨by decide, rfl⟩

end Sys2Proof.Tests
end

/-! PROOFS. What one step of the machine is (spec 00_scope.md R12): the decoded command's meaning when the host writes a
legal word to `CMD`, and no step at all when the host has no move left. -/

namespace Sys2Proof.Machine

/-- Settles O5: the case of `step_command` in which the word written to `CMD` decodes to a command. -/
theorem stepRunsTheDecodedCommand : Obligations.StepRunsTheDecodedCommand := by
  intro s w rest i hpending hdecode
  simp only [step_command hpending, hdecode]

/-- There is no move to take exactly when the host's list of moves is empty. -/
theorem takeMove_eq_none_iff {s : State} : takeMove s = none ↔ s.pending = [] := by
  cases hpending : s.pending with
  | nil => simp only [takeMove, hpending]
  | cons m rest => simp [takeMove, hpending]

/-- Settles O6: an empty list of moves leaves `takeMove` nothing to take, and then the machine is idle (log entry 5). -/
theorem noMoveNoStep : Obligations.NoMoveNoStep := by
  intro s hpending
  have hnone : takeMove s = none := takeMove_eq_none_iff.mpr hpending
  simp only [step, hnone]

end Sys2Proof.Machine

/-! PROOFS. The state the host sees and the key state behind it (spec 10_state.md): what each register move of the host
does, what a command reads, and what one step can do to the key state, to `LEN` and to the parameters. -/

namespace Sys2Proof.Machine

/-! ## Register moves as steps (R40 to R43) -/

/-- A register read by the host, as a step (R78). -/
theorem step_readReg {s : State} {reg : Nat} {rest : List HostMove} (h : s.pending = .readReg reg :: rest) :
    step s = .next (hostRead reg { s with pending := rest }) := by
  rw [step_hostMove h rfl, hostMove]

/-- A write by the host of a register other than `CMD`, as a step. -/
theorem step_writeReg {s : State} {reg : Nat} {v : Word} {rest : List HostMove}
    (h : s.pending = .writeReg reg v :: rest) (hreg : reg ≠ cmdReg) :
    step s = .next (writeRegister reg v { s with pending := rest }) := by
  rw [step_hostMove h (if_neg hreg), hostMove]

/-- A register read writes nothing but the host's last value read. -/
theorem hostRead_eq (reg : Nat) (s : State) : ∃ r, hostRead reg s = { s with readback := r } := by
  cases hr : readRegister reg s with
  | none => exact ⟨s.readback, by simp only [hostRead, hr]⟩
  | some v => exact ⟨some v, by simp only [hostRead, hr]⟩

theorem hostRead_cmd (s : State) : hostRead cmdReg s = { s with readback := some 0 } := rfl

theorem hostRead_len (s : State) : hostRead lenReg s = { s with readback := some s.len } := rfl

/-- R43: only `CMD`, `STATUS` and `LEN` are read. -/
theorem hostRead_of_gt {reg : Nat} (h : lenReg < reg) (s : State) : hostRead reg s = s := by
  have hcmd : reg ≠ cmdReg := by unfold lenReg at h; unfold cmdReg; omega
  have hstatus : reg ≠ statusReg := by unfold lenReg at h; unfold statusReg; omega
  have hnone : readRegister reg s = none := by simp only [readRegister, hcmd, hstatus, h.ne', if_false]
  simp only [hostRead, hnone]

/-- Only a write of `LEN` has an effect among the writes that issue no command. -/
theorem writeRegister_of_ne {reg : Nat} (h : reg ≠ lenReg) (v : Word) (s : State) : writeRegister reg v s = s := if_neg h

/-- R42: a write of `LEN` keeps the written value mod `2^LENW`. -/
theorem writeLen_len_toNat (v : Word) (s : State) : (writeLen v s).len.toNat = v.toNat % 2 ^ s.params.lenw := by
  have hlt : v.toNat % 2 ^ s.params.lenw < 2 ^ 32 := (Nat.mod_le _ _).trans_lt v.isLt
  rw [writeLen_len, BitVec.toNat_ofNat, Nat.mod_eq_of_lt hlt]

/-- Settles O10: a read of register 0 is `hostRead_cmd`. -/
theorem cmdReadsAsZero : Obligations.CmdReadsAsZero := fun _ _ hpending =>
  (step_readReg hpending).trans (congrArg _ (hostRead_cmd _))

/-- Settles O11: a register number above 2 is neither written nor read. -/
theorem otherNumbersAreNoRegister : Obligations.OtherNumbersAreNoRegister := by
  intro s reg v rest hreg hpending
  rcases hpending with hwrite | hread
  · rw [step_writeReg hwrite (show reg ≠ 0 by omega), writeRegister_of_ne hreg.ne']
  · rw [step_readReg hread, hostRead_of_gt hreg]

/-! ## The word of a command -/

/-- R100: the fields of a word make the word again. -/
theorem toWord_ofWord (w : Word) : (CmdFields.ofWord w).toWord = w := by
  unfold CmdFields.ofWord CmdFields.toWord
  apply BitVec.eq_of_getLsbD_eq
  intro i hi
  simp only [BitVec.getLsbD_append, BitVec.getLsbD_extractLsb']
  by_cases hop : i < 8
  · simp [hop]
  · by_cases hdir : i < 9
    · simp [hop, show i - 8 < 1 by omega, show 8 + (i - 8) = i by omega]
    · simp [hop, show ¬ i - 8 < 1 by omega, show i - 8 - 1 < 23 by omega, show 9 + (i - 8 - 1) = i by omega]

/-- R101, R102: fields that decode to a command are that command's fields. -/
theorem fields_of_decodeFields {f : CmdFields} {i : Instr} (h : decodeFields f = .ok i) : f = i.fields := by
  obtain ⟨reserved, dir, op⟩ := f
  unfold decodeFields at h
  split at h
  · cases h
  · rename_i hreserved
    obtain rfl : reserved = 0 := Decidable.not_not.1 hreserved
    split at h
    · rename_i hop
      obtain rfl : op = 0x01 := hop
      split at h
      · rename_i hdir
        obtain rfl : dir = 0 := hdir
        cases h
        rfl
      · cases h
    · split at h
      · rename_i hop
        obtain rfl : op = 0x02 := hop
        split at h
        · rename_i hdir
          obtain rfl : dir = 0 := hdir
          cases h
          rfl
        · rename_i hdir
          obtain rfl : dir = 1 := (BitVec.eq_zero_or_eq_one dir).resolve_left hdir
          cases h
          rfl
      · cases h

/-- R101: a word that decodes to a command is the word of that command. -/
theorem eq_encode_of_decode {w : Word} {i : Instr} (h : decode w = .ok i) : w = encode i := by
  rw [encode, ← fields_of_decodeFields h, toWord_ofWord]

/-- R40: a move that writes a word to `CMD` is a write of register 0. -/
theorem eq_writeReg_of_commandWord {m : HostMove} {w : Word} (h : commandWord m = some w) : m = .writeReg 0 w := by
  cases m with
  | writeReg reg v =>
    rw [commandWord] at h
    split at h
    · rename_i hreg
      rw [hreg, Option.some.inj h, cmdReg]
    · cases h
  | readReg | bindOperand | reset | resetDuring => cases h

/-! ## What a command can leave -/

/-- R137: what a `DERIVEKEY` that runs leaves, before `ERR` is written, under any key material that expands the
normalized keyword. It names neither `ERR` nor the old `KW`, `KM`, `KR`, `KVALID`. -/
theorem deriveBody_of_expansion {s : State} {m : KeyMaterial} (hm : IsExpansion (normalizedKeyword s) m) :
    deriveBody s = { s with
      kw := normalizedKeyword s
      km := m.km
      kr := m.kr
      kvalid := true
      k := unspecifiedK s.epoch
      epoch := s.epoch + 1 } := by
  obtain ⟨km, kr, heq, hexp⟩ := deriveBody_eq s
  obtain rfl := isExpansion_unique hm hexp
  exact heq

/-- A command that answers a next state was a `DERIVEKEY` that ran, or changed nothing but `ERR`, `x`, the BUFFER space
and the model's own counter (R35, R71). -/
theorem exec_next_state {i : Instr} {s t : State} (h : exec i s = .next t) :
    (i = .derivekey ∧ ∃ m, IsExpansion (normalizedKeyword s) m ∧ t = { s with
      kw := normalizedKeyword s
      km := m.km
      kr := m.kr
      kvalid := true
      err := .none
      k := unspecifiedK s.epoch
      epoch := s.epoch + 1 }) ∨
    ∃ err x buffer epoch, t = { s with err := err, x := x, buffer := buffer, epoch := epoch } := by
  rcases exec_next_cases h with ⟨e, -, rfl⟩ | ⟨-, -, rfl⟩
  · exact .inr ⟨e, s.x, s.buffer, s.epoch, rfl⟩
  · cases i with
    | derivekey =>
      obtain ⟨km, kr, heq, hexp⟩ := deriveBody_eq s
      exact .inl ⟨rfl, ⟨km, kr⟩, hexp, by rw [commandBody, heq]; rfl⟩
    | xformE => exact .inr ⟨.none, _, _, _, by rw [commandBody, encryptBody_eq]; rfl⟩
    | xformD => exact .inr ⟨.none, _, _, _, by rw [commandBody, decryptBody_eq]; rfl⟩

/-- No command writes `LEN` or the parameters (R42, R48). -/
theorem exec_len_params {i : Instr} {s t : State} (h : exec i s = .next t) : t.len = s.len ∧ t.params = s.params := by
  rcases exec_next_state h with ⟨-, m, -, rfl⟩ | ⟨err, x, buffer, epoch, rfl⟩
  · exact ⟨rfl, rfl⟩
  · exact ⟨rfl, rfl⟩

/-- R41: what a command that answers a next state leaves in `ERR`. -/
theorem exec_err {i : Instr} {s t : State} (h : exec i s = .next t) :
    t.err = match commandCheck i s with | some e => e | none => .none := by
  rcases exec_next_cases h with ⟨e, hcheck, rfl⟩ | ⟨hcheck, -, rfl⟩
  · rw [hcheck, raise_err]
  · rw [hcheck, complete_err]

/-- Settles O8: the host's write and read of register 2, and `LEN` as every command leaves it. -/
theorem lenRegister : Obligations.LenRegister :=
  ⟨fun s v rest hpending => ⟨_, writeLen_len_toNat v { s with pending := rest }, step_writeLen hpending⟩,
    fun _ _ hpending => (step_readReg hpending).trans (congrArg _ (hostRead_len _)),
    fun _ _ _ hexec => (exec_len_params hexec).1,
    rfl⟩

/-- R41: the fields of `STATUS`. -/
theorem statusWord_fields (s : State) :
    (statusWord s).getLsbD 0 = s.kvalid ∧ (statusWord s).extractLsb' 1 3 = 0 ∧
    (statusWord s).extractLsb' 4 4 = s.err.code ∧ (statusWord s).extractLsb' 8 24 = 0 := by
  unfold statusWord
  cases s.kvalid <;> cases s.err <;> decide

/-- Settles O9: the word's fields, the host's read and write of register 1, and `ERR` as every command leaves it. -/
theorem statusRegister : Obligations.StatusRegister := by
  refine ⟨statusWord_fields, rfl, fun s rest => step_readStatus, fun s v rest hpending => ?_,
    fun i s t => exec_err, rfl⟩
  rw [step_writeReg hpending (by decide), writeRegister_of_ne (by decide)]

/-! ## What a command reads -/

/-- A command has the same outcome on two machines that pass the same checks, have the operand bound alike, and are left
alike by the error and by the completed command. -/
theorem exec_congr {i : Instr} {s s' : State} (hcheck : commandCheck i s' = commandCheck i s)
    (hbound : operandBound i s' = operandBound i s) (hraise : ∀ e, raise e s' = raise e s)
    (hbody : complete (commandBody i s') = complete (commandBody i s)) : exec i s' = exec i s := by
  simp only [exec_eq_issue, issue, hcheck, hbound, hraise, hbody]

/-- A completed transform has overwritten `ERR` and read nothing of it (R39, R41). -/
theorem complete_transformBody_err (f : Block → Block) (s : State) (e : ErrCode) :
    complete (transformBody f { s with err := e }) = complete (transformBody f s) := by
  rw [transformBody_eq, transformBody_eq]
  rfl

/-- A completed `DERIVEKEY` has overwritten `ERR` and read nothing of it (R39, R41). -/
theorem complete_deriveBody_err (s : State) (e : ErrCode) :
    complete (deriveBody { s with err := e }) = complete (deriveBody s) := by
  obtain ⟨km, kr, heq, hexp⟩ := deriveBody_eq s
  rw [heq, deriveBody_of_expansion (s := { s with err := e }) hexp]
  rfl

/-- Settles O44: both ends of a command overwrite `ERR`, and neither its check nor its body reads it. -/
theorem errIsNeverRead : Obligations.ErrIsNeverRead := by
  intro i s e
  cases i with
  | derivekey => exact exec_congr rfl rfl (fun _ => rfl) (complete_deriveBody_err s e)
  | xformE => exact exec_congr rfl rfl (fun _ => rfl) (complete_transformBody_err _ s e)
  | xformD => exact exec_congr rfl rfl (fun _ => rfl) (complete_transformBody_err _ s e)

/-- A transform carries `KW` along (R31). -/
theorem transformBody_kw (f : Block → Block) (s : State) (kw : Vector Byte 32) :
    transformBody f { s with kw := kw } = { transformBody f s with kw := kw } := by
  rw [transformBody_eq, transformBody_eq]
  rfl

/-- R31: a command whose check, operand and body are the same under another `KW`, but for that `KW`, carries it to its
outcome. -/
theorem exec_carries_kw {i : Instr} {s : State} {kw : Vector Byte 32}
    (hcheck : commandCheck i { s with kw := kw } = commandCheck i s)
    (hbound : operandBound i { s with kw := kw } = operandBound i s)
    (hbody : commandBody i { s with kw := kw } = { commandBody i s with kw := kw }) :
    exec i { s with kw := kw } = match exec i s with
      | .next t => .next { t with kw := kw }
      | .fault f => .fault f
      | .refused r => .refused r := by
  simp only [exec_eq_issue, issue, hcheck, hbound, hbody]
  cases commandCheck i s with
  | some e => rfl
  | none =>
    cases operandBound i s with
    | true => rfl
    | false => rfl

/-- `DERIVEKEY` writes all of `KW` and reads none of what it held (R31, R130). -/
theorem deriveBody_kw (s : State) (kw : Vector Byte 32) : deriveBody { s with kw := kw } = deriveBody s := by
  obtain ⟨km, kr, heq, hexp⟩ := deriveBody_eq s
  rw [heq, deriveBody_of_expansion (s := { s with kw := kw }) hexp]
  rfl

/-- R137: `DERIVEKEY` runs on every state it is ready on. -/
theorem exec_derivekey_of_ready {s : State} (h : DeriveReady s) :
    exec .derivekey s = .next (complete (deriveBody s)) := by
  obtain ⟨hlen, hbound⟩ := h
  exact exec_of_ready (keyCheck_none.2 hlen) (decide_eq_true hbound)

/-- Settles O45: a transform carries `KW` along, a `DERIVEKEY` that runs replaces it. -/
theorem kwIsNeverRead : Obligations.KwIsNeverRead := by
  intro s kw
  refine ⟨fun i hi => ?_, fun hready => ?_⟩
  · rcases hi with rfl | rfl
    · exact exec_carries_kw rfl rfl (transformBody_kw _ s kw)
    · exact exec_carries_kw rfl rfl (transformBody_kw _ s kw)
  · have hready' : DeriveReady { s with kw := kw } := hready
    rw [exec_derivekey_of_ready hready, exec_derivekey_of_ready hready', deriveBody_kw]

/-! ## What one step can do to the key state, to `LEN` and to the parameters -/

/-- The moves that reset the engine: between two commands or during one (R280, R281). -/
def IsReset (m : HostMove) : Prop := m = .reset ∨ ∃ w, m = .resetDuring w

/-- `KW`, `KM`, `KR` and `KVALID` are the same in both machines. -/
def SameKeyState (s t : State) : Prop := t.kw = s.kw ∧ t.km = s.km ∧ t.kr = s.kr ∧ t.kvalid = s.kvalid

/-- R281: a reset during a command resets the engine, after the command has perhaps written to the BUFFER space. -/
theorem resetDuring_next_cases {w : Word} {s t : State} (h : resetDuring w s = .next t) :
    t = engineReset s ∨ t = engineReset (abortBuffer s) := by
  unfold resetDuring at h
  split at h
  · exact .inl (Host.Outcome.next.inj h).symm
  · rename_i i _
    split at h
    · exact .inl (Host.Outcome.next.inj h).symm
    · split at h
      · have ht : t = engineReset (abortEffect i s) := (Host.Outcome.next.inj h).symm
        cases i with
        | derivekey => exact .inl ht
        | xformE => exact .inr ht
        | xformD => exact .inr ht
      · exact absurd h (by simp)

/-- Everything a move that issues no command can leave: a written `LEN`, a change on the host's side alone, or a reset
engine. -/
theorem hostMove_next_cases {m : HostMove} {s t : State} (h : hostMove m s = .next t) :
    (∃ v, m = .writeReg lenReg v ∧ t = writeLen v s) ∨
    (∃ readback keyword buffer, t = { s with readback := readback, keyword := keyword, buffer := buffer }) ∨
    (IsReset m ∧ (t = engineReset s ∨ t = engineReset (abortBuffer s))) := by
  cases m with
  | writeReg reg v =>
    have ht : t = writeRegister reg v s := (Host.Outcome.next.inj h).symm
    by_cases hreg : reg = lenReg
    · exact .inl ⟨v, by rw [hreg], ht.trans (if_pos hreg)⟩
    · exact .inr (.inl ⟨_, _, _, ht.trans (writeRegister_of_ne hreg v s)⟩)
  | readReg reg =>
    obtain ⟨r, hr⟩ := hostRead_eq reg s
    exact .inr (.inl ⟨r, _, _, (Host.Outcome.next.inj h).symm.trans hr⟩)
  | bindOperand space bytes =>
    have ht : t = bindOperand space bytes s := (Host.Outcome.next.inj h).symm
    cases space with
    | keyword => exact .inr (.inl ⟨_, _, _, ht⟩)
    | buffer => exact .inr (.inl ⟨_, _, _, ht⟩)
  | reset => exact .inr (.inr ⟨.inl rfl, .inl (Host.Outcome.next.inj h).symm⟩)
  | resetDuring w => exact .inr (.inr ⟨.inr ⟨w, rfl⟩, resetDuring_next_cases h⟩)

/-- R34, R35: a step keeps the key state, or it ran a `DERIVEKEY` and the key state is an expanded keyword, or it was a
reset and no key is loaded. -/
theorem step_keyState_cases {s t : State} (h : step s = .next t) :
    ∃ m rest, s.pending = m :: rest ∧
      (SameKeyState s t ∨
        (m = .writeReg 0 0x00000001 ∧ t.kvalid = true ∧ IsExpansion t.kw (keyMaterial t)) ∨
        (IsReset m ∧ t.kvalid = false)) := by
  obtain ⟨m, rest, hpending, ⟨-, hmove⟩ | ⟨w, i, hword, hdecode, hexec⟩ | ⟨w, r, -, -, rfl⟩⟩ := step_next_cases h
  · refine ⟨m, rest, hpending, ?_⟩
    rcases hostMove_next_cases hmove with ⟨v, -, rfl⟩ | ⟨r, kw, bu, rfl⟩ | ⟨hreset, rfl | rfl⟩
    · exact .inl (by simp [SameKeyState])
    · exact .inl ⟨rfl, rfl, rfl, rfl⟩
    · exact .inr (.inr ⟨hreset, engineReset_kvalid _⟩)
    · exact .inr (.inr ⟨hreset, engineReset_kvalid _⟩)
  · refine ⟨m, rest, hpending, ?_⟩
    rcases exec_next_state hexec with ⟨rfl, km, hexp, rfl⟩ | ⟨err, x, bu, epoch, rfl⟩
    · have hw : w = 0x00000001 := eq_encode_of_decode hdecode
      exact .inr (.inl ⟨hw ▸ eq_writeReg_of_commandWord hword, rfl, hexp⟩)
    · exact .inl ⟨rfl, rfl, rfl, rfl⟩
  · exact ⟨m, rest, hpending, .inl ⟨rfl, rfl, rfl, rfl⟩⟩

/-- Settles O50: a kept key state stays consistent, a `DERIVEKEY` that ran leaves an expansion, a reset leaves no key. -/
theorem stepKeepsKeyConsistent : Obligations.StepKeepsKeyConsistent := by
  intro s t hs h hvalid
  obtain ⟨m, rest, -, ⟨hkw, hkm, hkr, hkvalid⟩ | ⟨-, -, hexp⟩ | ⟨-, hcleared⟩⟩ := step_keyState_cases h
  · rw [keyMaterial, hkw, hkm, hkr]
    exact hs (hkvalid ▸ hvalid)
  · exact hexp
  · exact absurd (hvalid.symm.trans hcleared) (by decide)

/-- Settles O46: of the three kinds of step, only a `DERIVEKEY` that ran sets `KVALID` and only a reset clears it. -/
theorem kvalidChangesOnlyByDerivekeyOrReset : Obligations.KvalidChangesOnlyByDerivekeyOrReset := by
  intro s t h
  obtain ⟨m, rest, hpending, ⟨-, -, -, hkept⟩ | ⟨rfl, hset, -⟩ | ⟨hreset, hcleared⟩⟩ := step_keyState_cases h
  · exact ⟨fun hfalse htrue => absurd (htrue.symm.trans (hkept.trans hfalse)) (by decide),
      fun htrue hfalse => absurd (htrue.symm.trans (hkept.symm.trans hfalse)) (by decide)⟩
  · exact ⟨fun _ _ => ⟨rest, hpending⟩, fun _ hfalse => absurd (hset.symm.trans hfalse) (by decide)⟩
  · refine ⟨fun _ htrue => absurd (htrue.symm.trans hcleared) (by decide), fun _ _ => ⟨rest, ?_⟩⟩
    rcases hreset with rfl | ⟨w, rfl⟩
    · exact .inl hpending
    · exact .inr ⟨w, hpending⟩

/-- Settles O47: the two kinds of step that do not keep the key state are the moves the statement leaves out. -/
theorem keyMaterialIsImmutable : Obligations.KeyMaterialIsImmutable := by
  intro s t m rest hpending h hderive hreset hduring
  obtain ⟨m', rest', hpending', hcases⟩ := step_keyState_cases h
  obtain ⟨rfl, -⟩ := List.cons.inj (hpending.symm.trans hpending')
  rcases hcases with ⟨hkw, hkm, hkr, -⟩ | ⟨hm, -, -⟩ | ⟨hm | ⟨w, hm⟩, -⟩
  · exact ⟨hkw, hkm, hkr⟩
  · exact absurd hm hderive
  · exact absurd hm hreset
  · exact absurd hm (hduring w)

/-- R42, R48: a step keeps the parameters; it keeps `LEN`, or has written it, or has reset it. -/
theorem step_len_cases {s t : State} (h : step s = .next t) :
    t.params = s.params ∧
      (t.len = s.len ∨ t.len = 0 ∨ ∃ v : Word, t.len.toNat = v.toNat % 2 ^ s.params.lenw) := by
  obtain ⟨m, rest, -, ⟨-, hmove⟩ | ⟨w, i, -, -, hexec⟩ | ⟨w, r, -, -, rfl⟩⟩ := step_next_cases h
  · rcases hostMove_next_cases hmove with ⟨v, -, rfl⟩ | ⟨r, kw, bu, rfl⟩ | ⟨-, rfl | rfl⟩
    · exact ⟨writeLen_params _ _, .inr (.inr ⟨v, writeLen_len_toNat _ _⟩)⟩
    · exact ⟨rfl, .inl rfl⟩
    · exact ⟨engineReset_params _, .inr (.inl (engineReset_len _))⟩
    · exact ⟨by simp, .inr (.inl (engineReset_len _))⟩
  · obtain ⟨hlen, hparams⟩ := exec_len_params hexec
    exact ⟨hparams, .inl hlen⟩
  · exact ⟨rfl, .inl rfl⟩

/-- Settles O51: a written `LEN` is a remainder mod `2^LENW`, a reset one is 0. -/
theorem stepKeepsLenInRange : Obligations.StepKeepsLenInRange := by
  intro s t ⟨hwf, hlt⟩ h
  obtain ⟨hparams, hlen⟩ := step_len_cases h
  have hpow : 0 < 2 ^ s.params.lenw := Nat.two_pow_pos _
  refine ⟨?_, hparams⟩
  rw [LenInRange, hparams]
  refine ⟨hwf, ?_⟩
  rcases hlen with hkept | hreset | ⟨v, hwritten⟩
  · rwa [hkept]
  · rwa [hreset]
  · rw [hwritten]
    exact Nat.mod_lt _ hpow

/-! ## Reset (R47, R280) -/

/-- Settles O15: the three fields of the reset state as R47 gives them. -/
theorem resetValues : Obligations.ResetValues := ⟨rfl, rfl, rfl⟩

/-- Settles O52: both spaces are empty, no key is loaded, and `LEN` is 0 under the default parameters. -/
theorem resetMeetsTheInvariants : Obligations.ResetMeetsTheInvariants :=
  ⟨by decide, fun hvalid => absurd hvalid (by decide), by decide⟩

end Sys2Proof.Machine

/-! PROOFS. The operand spaces (spec 20_memory.md): binding one, the bytes of a word and of a block, the order of the
blocks, and what one step can do to either space. -/

namespace Sys2Proof.Machine

/-! ## Reads and bindings by the host (R70, R78) -/

/-- Settles O12: a register read writes only the host's last value read. -/
theorem readsHaveNoSideEffect : Obligations.ReadsHaveNoSideEffect := by
  intro s reg rest hpending
  obtain ⟨r, hread⟩ := hostRead_eq reg { s with pending := rest }
  exact ⟨r, by rw [step_readReg hpending, hread]⟩

/-- R110: binding an operand, as a step. -/
theorem step_bindOperand {s : State} {id : SpaceId} {bytes : List Byte} {rest : List HostMove}
    (h : s.pending = .bindOperand id bytes :: rest) :
    step s = .next (bindOperand id bytes { s with pending := rest }) := by
  rw [step_hostMove h rfl, hostMove]

/-- Settles O14: the space bound is `Space.ofBytes` of the bytes. -/
theorem bindOperandHoldsTheBytes : Obligations.BindOperandHoldsTheBytes := by
  intro s id bytes rest hpending
  refine ⟨Space.ofBytes bytes, ?_, ofBytes_size bytes, ofBytes_wf bytes, fun j hj => ?_⟩
  · rw [step_bindOperand hpending]
    cases id with
    | keyword => rfl
    | buffer => rfl
  · rw [ofBytes_byteAt, List.getD_eq_getElem _ _ hj]

/-! ## The bytes of a word and of a block (R72) -/

/-- R72: four bytes as one unsigned integer, the first most significant. -/
theorem catBytes_toNat (b0 b1 b2 b3 : Byte) :
    (catBytes b0 b1 b2 b3).toNat = b0.toNat * 2 ^ 24 + b1.toNat * 2 ^ 16 + b2.toNat * 2 ^ 8 + b3.toNat := by
  have append_toNat {n : Nat} (hi : BitVec n) (lo : Byte) : (hi ++ lo).toNat = hi.toNat * 2 ^ 8 + lo.toNat := by
    rw [BitVec.toNat_append, ← Nat.shiftLeft_add_eq_or_of_lt lo.isLt, Nat.shiftLeft_eq]
  rw [catBytes, append_toNat, append_toNat, append_toNat]
  omega

/-- R72: byte `q` of the word at an offset is the byte `q` offsets further on. -/
theorem byteAt_eq_wordByte (sp : Space) (off : Nat) {q : Nat} (hq : q < 4) :
    sp.byteAt (off + q) = wordByte (sp.wordAt off) q := by
  obtain ⟨h0, h1, h2, h3⟩ :=
    wordByte_catBytes (sp.byteAt off) (sp.byteAt (off + 1)) (sp.byteAt (off + 2)) (sp.byteAt (off + 3))
  unfold Space.wordAt
  interval_cases q
  · exact h0.symm
  · exact h1.symm
  · exact h2.symm
  · exact h3.symm

/-- R203: the four words at the offsets of a block after it is stored. -/
theorem storeBlock_wordAt {sp : Space} (h : sp.wf) {b : Nat} (hb : 16 * b + 16 ≤ sp.size) (x : Block) :
    (sp.storeBlock b x).wordAt (16 * b) = x.a ∧ (sp.storeBlock b x).wordAt (16 * b + 4) = x.b ∧
    (sp.storeBlock b x).wordAt (16 * b + 8) = x.c ∧ (sp.storeBlock b x).wordAt (16 * b + 12) = x.d := by
  have hload := storeBlock_loadBlock h hb x
  exact ⟨congrArg Block.a hload, congrArg Block.b hload, congrArg Block.c hload, congrArg Block.d hload⟩

/-- Settles O32: a stored byte is a byte of the word read back, and that word is the one stored. -/
theorem blocksAreBigEndian : Obligations.BlocksAreBigEndian := by
  refine ⟨fun sp o => catBytes_toNat _ _ _ _, fun sp b => ⟨rfl, rfl, rfl, rfl, rfl⟩, fun sp b x hwf hfits q hq => ?_⟩
  obtain ⟨ha, hb, hc, hd⟩ := storeBlock_wordAt hwf hfits x
  simp only [byteAt_eq_wordByte _ _ hq, ha, hb, hc, hd]
  exact ⟨rfl, rfl, rfl, rfl⟩

/-! ## The order of the blocks (R81) -/

/-- The loop over distinct blocks leaves the same space in every order: byte by byte, either the block the byte lies in is
in both lists and is coded once, or it is in neither and the byte is kept. -/
theorem codedSpace_perm {sp : Space} (h : sp.wf) (f : Block → Block) {order order' : List Nat}
    (hperm : order.Perm order') (nodup : order'.Nodup) (fits : ∀ b ∈ order', 16 * b + 16 ≤ sp.size) :
    codedSpace f order sp = codedSpace f order' sp := by
  have fits' : ∀ b ∈ order, 16 * b + 16 ≤ sp.size := fun b hb => fits b (hperm.mem_iff.1 hb)
  refine space_ext (codedSpace_wf h f order) (codedSpace_wf h f order') (by simp only [codedSpace_size]) fun o => ?_
  by_cases hmem : o / 16 ∈ order'
  · have same : (codedSpace f order sp).loadBlock (o / 16) = (codedSpace f order' sp).loadBlock (o / 16) := by
      rw [codedSpace_loadBlock h f (hperm.nodup_iff.2 nodup) fits', codedSpace_loadBlock h f nodup fits,
        if_pos (hperm.mem_iff.2 hmem), if_pos hmem]
    exact byteAt_of_loadBlock same (by omega) (by omega)
  · have outside : ∀ b ∈ order', o < 16 * b ∨ 16 * b + 16 ≤ o := by
      intro b hb
      have hne : b ≠ o / 16 := fun heq => hmem (heq ▸ hb)
      omega
    rw [codedSpace_byteAt_other h f fits' fun b hb => outside b (hperm.mem_iff.1 hb),
      codedSpace_byteAt_other h f fits outside]

/-- The block loop leaves in the BUFFER space the loop on the space alone. -/
theorem transformBlocks_buffer (f : Block → Block) (order : List Nat) (s : State) :
    (transformBlocks f order s).buffer = codedSpace f order s.buffer := by
  obtain ⟨x, hx⟩ := transformBlocks_eq f order s
  rw [hx]

/-- Settles O40: the ascending indexes are distinct and inside the bound buffer, so `codedSpace_perm` applies. -/
theorem blockOrderIsImmaterial : Obligations.BlockOrderIsImmaterial := by
  intro f order s hwf hlen hperm
  rw [transformBlocks_buffer, transformBlocks_buffer]
  exact codedSpace_perm hwf f hperm List.nodup_range (block_fits hlen)

/-! ## What one step can do to the operand spaces (R71, R281) -/

/-- The commands whose operand is the BUFFER space. -/
def IsTransform (i : Instr) : Prop := i = .xformE ∨ i = .xformD

/-- What the move `m`, made on `s`, can leave of the two operand spaces in `t`. -/
inductive SpacesEffect (s : State) (m : HostMove) (t : State) : Prop where
  /-- neither space is written -/
  | kept (keyword : t.keyword = s.keyword) (buffer : t.buffer = s.buffer)
  /-- the move binds the KEYWORD space (R70) -/
  | boundKeyword (bytes : List Byte) (move : m = .bindOperand .keyword bytes)
      (keyword : t.keyword = Space.ofBytes bytes) (buffer : t.buffer = s.buffer)
  /-- the move binds the BUFFER space (R70) -/
  | boundBuffer (bytes : List Byte) (move : m = .bindOperand .buffer bytes)
      (keyword : t.keyword = s.keyword) (buffer : t.buffer = Space.ofBytes bytes)
  /-- a transform ran over its blocks (R204, R205) -/
  | coded (i : Instr) (f : Block → Block) (transform : IsTransform i) (move : m = .writeReg 0 (encode i))
      (keyword : t.keyword = s.keyword) (buffer : t.buffer = codedSpace f (List.range (blockCount s)) s.buffer)
  /-- a transform was cut short by a reset (R281) -/
  | aborted (i : Instr) (transform : IsTransform i) (move : m = .resetDuring (encode i))
      (keyword : t.keyword = s.keyword) (buffer : t.buffer = (abortBuffer s).buffer)

/-- A `DERIVEKEY` that runs keeps both operand spaces (R71, R137). -/
theorem deriveBody_spaces (s : State) :
    (deriveBody s).keyword = s.keyword ∧ (deriveBody s).buffer = s.buffer := by
  obtain ⟨km, kr, heq, -⟩ := deriveBody_eq s
  rw [heq]
  exact ⟨rfl, rfl⟩

/-- A transform that runs keeps the KEYWORD space and codes the blocks of the BUFFER space (R204, R205). -/
theorem transformBody_spaces (f : Block → Block) (s : State) :
    (transformBody f s).keyword = s.keyword ∧
    (transformBody f s).buffer = codedSpace f (List.range (blockCount s)) s.buffer := by
  rw [transformBody_eq]
  exact ⟨rfl, rfl⟩

/-- A command writes no space but the blocks of the BUFFER space that a transform runs over (R71). -/
theorem exec_spacesEffect {i : Instr} {s t : State} (h : exec i s = .next t) :
    SpacesEffect s (.writeReg 0 (encode i)) t := by
  rcases exec_next_cases h with ⟨e, -, rfl⟩ | ⟨-, -, rfl⟩
  · exact .kept (raise_keyword e s) (raise_buffer e s)
  · cases i with
    | derivekey =>
      obtain ⟨hkeyword, hbuffer⟩ := deriveBody_spaces s
      exact .kept ((complete_keyword _).trans hkeyword) ((complete_buffer _).trans hbuffer)
    | xformE =>
      obtain ⟨hkeyword, hbuffer⟩ := transformBody_spaces (encblk (keyMaterial s)) s
      exact .coded .xformE _ (.inl rfl) rfl ((complete_keyword _).trans hkeyword)
        ((complete_buffer _).trans hbuffer)
    | xformD =>
      obtain ⟨hkeyword, hbuffer⟩ := transformBody_spaces (decblk (keyMaterial s)) s
      exact .coded .xformD _ (.inr rfl) rfl ((complete_keyword _).trans hkeyword)
        ((complete_buffer _).trans hbuffer)

/-- R281: a reset during a command leaves the reset engine, after what the cut command has perhaps left. -/
theorem resetDuring_next_effect {w : Word} {s t : State} (h : resetDuring w s = .next t) :
    t = engineReset s ∨ ∃ i, decode w = .ok i ∧ t = engineReset (abortEffect i s) := by
  unfold resetDuring at h
  split at h
  · exact .inl (Host.Outcome.next.inj h).symm
  · rename_i i hdecode
    split at h
    · exact .inl (Host.Outcome.next.inj h).symm
    · split at h
      · exact .inr ⟨i, hdecode, (Host.Outcome.next.inj h).symm⟩
      · cases h

/-- A reset during a command writes no space but the BUFFER space, and that only during a transform (R281). -/
theorem resetDuring_spacesEffect {w : Word} {s t : State} (h : resetDuring w s = .next t) :
    SpacesEffect s (.resetDuring w) t := by
  rcases resetDuring_next_effect h with rfl | ⟨i, hdecode, rfl⟩
  · exact .kept (engineReset_keyword s) (engineReset_buffer s)
  · obtain rfl := eq_encode_of_decode hdecode
    cases i with
    | derivekey => exact .kept (engineReset_keyword s) (engineReset_buffer s)
    | xformE =>
      exact .aborted .xformE (.inl rfl) rfl ((engineReset_keyword _).trans (abortBuffer_keyword s)) (engineReset_buffer _)
    | xformD =>
      exact .aborted .xformD (.inr rfl) rfl ((engineReset_keyword _).trans (abortBuffer_keyword s)) (engineReset_buffer _)

/-- A register write that issues no command writes no space. -/
theorem writeRegister_spaces (reg : Nat) (v : Word) (s : State) :
    (writeRegister reg v s).keyword = s.keyword ∧ (writeRegister reg v s).buffer = s.buffer := by
  unfold writeRegister
  split
  · exact ⟨writeLen_keyword v s, writeLen_buffer v s⟩
  · exact ⟨rfl, rfl⟩

/-- A move that issues no command writes a space only by binding it or by cutting a transform short. -/
theorem hostMove_spacesEffect {m : HostMove} {s t : State} (h : hostMove m s = .next t) : SpacesEffect s m t := by
  cases m with
  | writeReg reg v =>
    obtain rfl : writeRegister reg v s = t := Host.Outcome.next.inj h
    obtain ⟨hkeyword, hbuffer⟩ := writeRegister_spaces reg v s
    exact .kept hkeyword hbuffer
  | readReg reg =>
    obtain ⟨r, hread⟩ := hostRead_eq reg s
    obtain rfl : { s with readback := r } = t := hread.symm.trans (Host.Outcome.next.inj h)
    exact .kept rfl rfl
  | bindOperand space bytes =>
    obtain rfl : bindOperand space bytes s = t := Host.Outcome.next.inj h
    cases space with
    | keyword => exact .boundKeyword bytes rfl rfl rfl
    | buffer => exact .boundBuffer bytes rfl rfl rfl
  | reset =>
    obtain rfl : engineReset s = t := Host.Outcome.next.inj h
    exact .kept (engineReset_keyword s) (engineReset_buffer s)
  | resetDuring w => exact resetDuring_spacesEffect h

/-- Everything one step can leave of the two operand spaces. -/
theorem step_spacesEffect {s t : State} (h : step s = .next t) :
    ∃ m rest, s.pending = m :: rest ∧ SpacesEffect { s with pending := rest } m t := by
  obtain ⟨m, rest, hpending, ⟨-, hmove⟩ | ⟨w, i, hword, hdecode, hexec⟩ | ⟨w, r, -, -, rfl⟩⟩ := step_next_cases h
  · exact ⟨m, rest, hpending, hostMove_spacesEffect hmove⟩
  · obtain rfl := eq_encode_of_decode hdecode
    obtain rfl := eq_writeReg_of_commandWord hword
    exact ⟨_, rest, hpending, exec_spacesEffect hexec⟩
  · exact ⟨m, rest, hpending, .kept rfl rfl⟩

/-- A reset during a transform keeps the canonical form, whatever bytes it leaves (R281). -/
theorem abortBuffer_wf {s : State} (h : s.buffer.wf) : (abortBuffer s).buffer.wf := by
  unfold abortBuffer
  exact List.foldlRecOn _ _ h fun _ hsp off _ => setByte_wf hsp off _

/-- Every effect of a move keeps both operand spaces in their canonical form. -/
theorem SpacesEffect.canonical {s t : State} {m : HostMove} (h : SpacesEffect s m t) (hs : SpacesCanonical s) :
    SpacesCanonical t := by
  obtain ⟨hkeyword, hbuffer⟩ := hs
  cases h with
  | kept keyword buffer => exact ⟨keyword ▸ hkeyword, buffer ▸ hbuffer⟩
  | boundKeyword bytes _ keyword buffer => exact ⟨keyword ▸ ofBytes_wf bytes, buffer ▸ hbuffer⟩
  | boundBuffer bytes _ keyword buffer => exact ⟨keyword ▸ hkeyword, buffer ▸ ofBytes_wf bytes⟩
  | coded i f _ _ keyword buffer => exact ⟨keyword ▸ hkeyword, buffer ▸ codedSpace_wf hbuffer f _⟩
  | aborted i _ _ keyword buffer => exact ⟨keyword ▸ hkeyword, buffer ▸ abortBuffer_wf hbuffer⟩

/-- Settles O49: a step leaves one of the effects above, and each keeps the canonical form. -/
theorem stepKeepsSpacesCanonical : Obligations.StepKeepsSpacesCanonical := by
  intro s t hs h
  obtain ⟨m, rest, -, heffect⟩ := step_spacesEffect h
  exact heffect.canonical hs

/-- The move that changes the KEYWORD space binds it (R71). -/
theorem SpacesEffect.binds_of_keyword_ne {s t : State} {m : HostMove} (h : SpacesEffect s m t)
    (hne : t.keyword ≠ s.keyword) : ∃ bytes, m = .bindOperand .keyword bytes := by
  cases h with
  | boundKeyword bytes move => exact ⟨bytes, move⟩
  | kept keyword | boundBuffer _ _ keyword | coded _ _ _ _ keyword | aborted _ _ _ keyword => exact absurd keyword hne

/-- The move that changes the BUFFER space binds it, runs a transform, or cuts one short by a reset (R71, R281). -/
theorem SpacesEffect.move_of_buffer_ne {s t : State} {m : HostMove} (h : SpacesEffect s m t)
    (hne : t.buffer ≠ s.buffer) :
    (∃ bytes, m = .bindOperand .buffer bytes) ∨
      ∃ i, IsTransform i ∧ (m = .writeReg 0 (encode i) ∨ m = .resetDuring (encode i)) := by
  cases h with
  | kept _ buffer | boundKeyword _ _ _ buffer => exact absurd buffer hne
  | boundBuffer bytes move => exact .inl ⟨bytes, move⟩
  | coded i _ transform move => exact .inr ⟨i, transform, .inl move⟩
  | aborted i transform move => exact .inr ⟨i, transform, .inr move⟩

/-- Settles O48: the effects that change a space name the move, and a transform's word is one of two. -/
theorem stepsReachOnlyTheirSpace : Obligations.StepsReachOnlyTheirSpace := by
  intro s t m rest hpending h
  obtain ⟨m', rest', hpending', heffect⟩ := step_spacesEffect h
  obtain ⟨rfl, -⟩ := List.cons.inj (hpending.symm.trans hpending')
  refine ⟨heffect.binds_of_keyword_ne, fun hne => ?_⟩
  obtain hbind | ⟨i, rfl | rfl, hmove | hmove⟩ := heffect.move_of_buffer_ne hne
  · exact .inl hbind
  · exact .inr (.inl hmove)
  · exact .inr (.inr (.inr (.inl hmove)))
  · exact .inr (.inr (.inl hmove))
  · exact .inr (.inr (.inr (.inr hmove)))

end Sys2Proof.Machine

/-! PROOFS. The encoding (spec 30_encoding.md): the three words of R101 and every other word, the lines the pseudo-commands
of R111 stand for, and what the two on one block leave. -/

namespace Sys2Proof.Machine

/-! ## The three words of R101 -/

theorem encode_derivekey : encode .derivekey = 0x00000001 := by decide

theorem encode_xformE : encode .xformE = 0x00000002 := by decide

theorem encode_xformD : encode .xformD = 0x00000102 := by decide

/-- The fields of every command are well formed, and they are what its word is split into. -/
theorem commandFields_statement : ∀ i : Instr, Laws.CommandFields.Statement i
  | .derivekey => Laws.CommandFields.derivekey
  | .xformE => Laws.CommandFields.xformE
  | .xformD => Laws.CommandFields.xformD

/-- R101: the fields of a command decode to it. -/
theorem decodeFields_fields (i : Instr) : decodeFields i.fields = .ok i := by
  cases i with
  | derivekey | xformE | xformD => rfl

/-- R101: the word of a command decodes to it. -/
theorem decode_encode (i : Instr) : decode (encode i) = .ok i := by
  obtain ⟨-, hsplit⟩ := commandFields_statement i
  rw [decode, hsplit, decodeFields_fields]

/-- R101: a word decodes to a command exactly when it is that command's word. -/
theorem decode_eq_ok_iff {w : Word} {i : Instr} : decode w = .ok i ↔ w = encode i :=
  ⟨eq_encode_of_decode, fun h => h ▸ decode_encode i⟩

/-- R102: a word that is none of the three is rejected. -/
theorem decode_eq_error_of_ne {w : Word} (h : ∀ i, w ≠ encode i) : ∃ r, decode w = .error r := by
  cases hdecode : decode w with
  | ok i => exact absurd (eq_encode_of_decode hdecode) (h i)
  | error r => exact ⟨r, rfl⟩

/-- Settles O1: `decode_eq_ok_iff` at each of the three commands. -/
theorem legalWordsAreTheThree : Obligations.LegalWordsAreTheThree := by
  intro w
  rw [← encode_derivekey, ← encode_xformE, ← encode_xformD]
  exact ⟨decode_eq_ok_iff, decode_eq_ok_iff, decode_eq_ok_iff⟩

/-- Settles O4: the case of `step_command` in which the word written to `CMD` is rejected. -/
theorem otherWordsRaiseIllegalCommand : Obligations.OtherWordsRaiseIllegalCommand := by
  intro s w rest hpending hderivekey hxformE hxformD
  have hother : ∀ i, w ≠ encode i
    | .derivekey => encode_derivekey ▸ hderivekey
    | .xformE => encode_xformE ▸ hxformE
    | .xformD => encode_xformD ▸ hxformD
  obtain ⟨r, hdecode⟩ := decode_eq_error_of_ne hother
  simp only [step_command hpending, hdecode, issueIllegal, raise]

/-- Settles O2: the fields of a command's word, and the word decoded. -/
theorem encodeThenDecodeAgree : Obligations.EncodeThenDecodeAgree := fun i =>
  ⟨(commandFields_statement i).1, decode_encode i⟩

/-! ## The lines of the pseudo-commands (R110, R111) -/

/-- R110: the moves of a transform's line whose operand is one block. -/
theorem lineMoves_block {i : Instr} (hi : IsTransform i) (blk : Vector Byte 16) :
    lineMoves { command := i, operand := blk.toList } =
      [.bindOperand .buffer blk.toList, .writeReg lenReg 16, .writeReg cmdReg (encode i), .readReg statusReg] := by
  have hspace : operandSpace i = .buffer := by
    rcases hi with rfl | rfl
    · rfl
    · rfl
  have hlen : BitVec.ofNat 32 blk.toList.length = 16 := congrArg (BitVec.ofNat 32) Vector.length_toList
  simp only [lineMoves, hspace, hlen]

/-- Settles O7: the lines are those `Pseudo.expand` gives, and the moves on one block are `lineMoves_block`. -/
theorem pseudoCommandsExpand : Obligations.PseudoCommandsExpand := by
  refine ⟨fun bytes => ⟨rfl, rfl, rfl⟩, fun blk => ⟨Vector.length_toList, rfl, rfl, ?_, ?_⟩⟩
  · rw [← encode_xformE]
    exact lineMoves_block (.inl rfl) blk
  · rw [← encode_xformD]
    exact lineMoves_block (.inr rfl) blk

/-! ## The pseudo-commands on one block (R111) -/

/-- R7: in range, `LENW` has room for the length of one block. -/
theorem block_lt_two_pow_lenw {p : Params} (h : p.wf) : 16 < 2 ^ p.lenw := by
  obtain ⟨-, hmin, hmax⟩ := h
  omega

/-- R42: a value of `LENW` bits is written to `LEN` whole. -/
theorem writeLen_of_lt {v : Word} {s : State} (h : v.toNat < 2 ^ s.params.lenw) : writeLen v s = { s with len := v } := by
  rw [writeLen, Nat.mod_eq_of_lt h, BitVec.ofNat_toNat, BitVec.setWidth_eq]

/-- R42: a write of `LEN` that fits, as a step. -/
theorem step_writeLen_of_lt {s : State} {v : Word} {rest : List HostMove} (h : s.pending = .writeReg lenReg v :: rest)
    (hlt : v.toNat < 2 ^ s.params.lenw) : step s = .next { s with len := v, pending := rest } :=
  (step_writeLen h).trans (congrArg _ (writeLen_of_lt hlt))

/-- R201, R204, R205: a transform runs on every ready machine. -/
theorem exec_of_transformReady {i : Instr} (hi : IsTransform i) {s : State} (h : TransformReady s) :
    exec i s = .next (complete (commandBody i s)) := by
  obtain ⟨hkey, hmultiple, hbound⟩ := h
  have hcheck : transformCheck s = none := transformCheck_none.2 ⟨hkey, hmultiple⟩
  rcases hi with rfl | rfl
  · exact exec_of_ready hcheck (decide_eq_true hbound)
  · exact exec_of_ready hcheck (decide_eq_true hbound)

/-- The loop over one block. -/
theorem codedSpace_singleton (f : Block → Block) (b : Nat) (sp : Space) : codedSpace f [b] sp = blockStep f sp b := by
  simp only [codedSpace, List.foldl_cons, List.foldl_nil]

/-- R204, R205: a transform whose body applies `f` to each block, on a keyed machine with one block bound and `LEN` 16,
stores `f` of that block and completes. -/
theorem exec_one_block {i : Instr} (hi : IsTransform i) {s : State} {f : Block → Block} {blk : Vector Byte 16}
    (hbody : commandBody i s = transformBody f s) (hkey : s.kvalid = true) (hlen : s.len = 16)
    (hbuffer : s.buffer = Space.ofBytes blk.toList) :
    exec i s = .next { s with
      err := .none
      x := unspecifiedX s.epoch
      buffer := (Space.ofBytes blk.toList).storeBlock 0 (f (blockOfBytes blk))
      epoch := s.epoch + 1 } := by
  have hbytes : lenBytes s = 16 := congrArg BitVec.toNat hlen
  have hcount : blockCount s = 1 := by rw [blockCount, hbytes]
  have hready : TransformReady s := ⟨hkey, by rw [hbytes], by rw [hbytes, hbuffer, ofBytes_size, Vector.length_toList]⟩
  have hcoded : codedSpace f (List.range (blockCount s)) s.buffer =
      (Space.ofBytes blk.toList).storeBlock 0 (f (blockOfBytes blk)) := by
    rw [hcount, hbuffer, List.range_one, codedSpace_singleton, blockStep, ofBytes_loadBlock]
  rw [exec_of_transformReady hi hready, hbody, transformBody_eq, hcoded, complete]

/-- R41: `STATUS` after a command that completed, with a key loaded. -/
theorem statusWord_keyed {s : State} (hkey : s.kvalid = true) (herr : s.err = .none) : statusWord s = 0x00000001 := by
  rw [statusWord, hkey, herr]
  decide

/-- R110: the first two steps of a transform's line whose operand is one block bind the block and write `LEN` 16. -/
theorem steps_bind_block {i : Instr} (hi : IsTransform i) {s : State} {blk : Vector Byte 16} {rest : List HostMove}
    (hwf : s.params.wf) (hpending : s.pending = lineMoves { command := i, operand := blk.toList } ++ rest) :
    ∃ t1, step s = .next t1 ∧ step t1 = .next { s with
      buffer := Space.ofBytes blk.toList
      len := 16
      pending := .writeReg cmdReg (encode i) :: .readReg statusReg :: rest } := by
  rw [lineMoves_block hi] at hpending
  exact ⟨_, step_bindOperand hpending, step_writeLen_of_lt rfl (block_lt_two_pow_lenw hwf)⟩

/-- R110: the last two steps of that line, on a keyed machine with the block bound and `LEN` 16, run the transform and read
`STATUS`. -/
theorem steps_run_block {i : Instr} (hi : IsTransform i) {s : State} {f : Block → Block} {blk : Vector Byte 16}
    {rest : List HostMove} (hbody : ∀ t, keyMaterial t = keyMaterial s → commandBody i t = transformBody f t)
    (hkey : s.kvalid = true) (hlen : s.len = 16) (hbuffer : s.buffer = Space.ofBytes blk.toList)
    (hpending : s.pending = .writeReg cmdReg (encode i) :: .readReg statusReg :: rest) :
    ∃ t3 t4, step s = .next t3 ∧ step t3 = .next t4 ∧
      t4.buffer = (Space.ofBytes blk.toList).storeBlock 0 (f (blockOfBytes blk)) ∧ t4.err = .none ∧
      t4.readback = some 0x00000001 ∧ keyMaterial t4 = keyMaterial s ∧ t4.keyword = s.keyword ∧ t4.pending = rest := by
  have hrun := (step_encode hpending).trans (exec_one_block hi (hbody _ rfl) hkey hlen hbuffer)
  refine ⟨_, _, hrun, step_readStatus rfl, ?_, rfl, congrArg some (statusWord_keyed hkey rfl), rfl, rfl, rfl⟩
  dsimp only

/-- Settles O54: each of the two is the line of a transform on one block, whose first two steps place the block and whose
last two code it. -/
theorem blockPseudoCommandsAreBlockFunctions : Obligations.BlockPseudoCommandsAreBlockFunctions := by
  intro s p blk f rest hwf hkey hpending hcase
  obtain ⟨i, hi, hline, hbody⟩ : ∃ i, IsTransform i ∧ p.expand = { command := i, operand := blk.toList } ∧
      ∀ t, keyMaterial t = keyMaterial s → commandBody i t = transformBody f t := by
    rcases hcase with ⟨rfl, rfl⟩ | ⟨rfl, rfl⟩
    · exact ⟨.xformE, .inl rfl, rfl, fun t ht => by rw [commandBody, encryptBody, ht]⟩
    · exact ⟨.xformD, .inr rfl, rfl, fun t ht => by rw [commandBody, decryptBody, ht]⟩
  rw [pseudoMoves, hline] at hpending
  obtain ⟨t1, hbind, hlen⟩ := steps_bind_block hi hwf hpending
  obtain ⟨t3, t4, hrun, hread, hstored, hafter⟩ := steps_run_block (s := { s with
    buffer := Space.ofBytes blk.toList, len := 16, pending := _ }) hi hbody hkey rfl rfl rfl
  have hsize : (Space.ofBytes blk.toList).size = 16 := by rw [ofBytes_size, Vector.length_toList]
  refine ⟨t1, _, t3, t4, hbind, hlen, hrun, hread, rfl, rfl, ?_, ?_, hafter⟩
  · rw [hstored, storeBlock_size, hsize]
  · rw [hstored, storeBlock_loadBlock (ofBytes_wf blk.toList) (by rw [hsize])]

end Sys2Proof.Machine

/-! PROOFS. The key schedule (spec 40_key_schedule.md): the words `LOADK` assembles, the octave undone statement by
statement, and what `DERIVEKEY` leaves and leaves alone. -/

namespace Sys2Proof.Machine

/-! ## The words of the keyword (R131) -/

/-- Settles O23: each working word is four keyword bytes, the first most significant. -/
theorem keywordLoadsBigEndian : Obligations.KeywordLoadsBigEndian := fun _ =>
  ⟨catBytes_toNat _ _ _ _, catBytes_toNat _ _ _ _, catBytes_toNat _ _ _ _, catBytes_toNat _ _ _ _,
    catBytes_toNat _ _ _ _, catBytes_toNat _ _ _ _, catBytes_toNat _ _ _ _, catBytes_toNat _ _ _ _⟩

/-! ## The octave (R133) -/

theorem xor32_xor32_cancel_right (a b : Word) : xor32 (xor32 a b) b = a := by
  rw [xor32, xor32, BitVec.xor_assoc, BitVec.xor_self, BitVec.xor_zero]

/-- `k[r]` by index (R37). -/
def KeyRegs.get (k : KeyRegs) : Fin 8 → Word
  | 0 => k.a
  | 1 => k.b
  | 2 => k.c
  | 3 => k.d
  | 4 => k.e
  | 5 => k.f
  | 6 => k.g
  | 7 => k.h

/-- `k[r] <- v` by index (R37). -/
def KeyRegs.set (k : KeyRegs) (r : Fin 8) (v : Word) : KeyRegs :=
  match r with
  | 0 => { k with a := v }
  | 1 => { k with b := v }
  | 2 => { k with c := v }
  | 3 => { k with d := v }
  | 4 => { k with e := v }
  | 5 => { k with f := v }
  | 6 => { k with g := v }
  | 7 => { k with h := v }

theorem KeyRegs.get_set (k : KeyRegs) (q r : Fin 8) (v : Word) :
    (k.set r v).get q = if q = r then v else k.get q := by
  fin_cases r <;> fin_cases q <;> rfl

@[simp] theorem KeyRegs.set_set (k : KeyRegs) (r : Fin 8) (v w : Word) : (k.set r v).set r w = k.set r w := by
  fin_cases r <;> rfl

@[simp] theorem KeyRegs.set_get (k : KeyRegs) (r : Fin 8) : k.set r (k.get r) = k := by
  fin_cases r <;> rfl

/-- One statement of an octave: `k[dst] <- xor(k[dst], f(k[src]))` (R133). -/
def octaveStatement (dst src : Fin 8) (f : Word → Word) (k : KeyRegs) : KeyRegs :=
  k.set dst (xor32 (k.get dst) (f (k.get src)))

/-- R133: an octave is its eight statements, the last written first. -/
theorem octave_eq_comp (i : Nat) : octave i =
    octaveStatement 7 0 (f2 · (Config.tr 7 i) (Config.tm 7 i)) ∘
    octaveStatement 0 1 (f1 · (Config.tr 6 i) (Config.tm 6 i)) ∘
    octaveStatement 1 2 (f3 · (Config.tr 5 i) (Config.tm 5 i)) ∘
    octaveStatement 2 3 (f2 · (Config.tr 4 i) (Config.tm 4 i)) ∘
    octaveStatement 3 4 (f1 · (Config.tr 3 i) (Config.tm 3 i)) ∘
    octaveStatement 4 5 (f3 · (Config.tr 2 i) (Config.tm 2 i)) ∘
    octaveStatement 5 6 (f2 · (Config.tr 1 i) (Config.tm 1 i)) ∘
    octaveStatement 6 7 (f1 · (Config.tr 0 i) (Config.tm 0 i)) := rfl

/-- A statement that reads another word than it writes undoes itself, whatever its function. -/
theorem octaveStatement_involutive {dst src : Fin 8} (h : src ≠ dst) (f : Word → Word) :
    Function.Involutive (octaveStatement dst src f) := by
  intro k
  simp only [octaveStatement, KeyRegs.get_set, if_neg h, if_true, KeyRegs.set_set, xor32_xor32_cancel_right,
    KeyRegs.set_get]

/-- Settles O24: an octave is eight involutive statements, one after another. -/
theorem octaveIsInvertible : Obligations.OctaveIsInvertible := by
  intro i
  have statement {dst src : Fin 8} (h : src ≠ dst) (f : Word → Word) :
      Function.Bijective (octaveStatement dst src f) := (octaveStatement_involutive h f).bijective
  rw [octave_eq_comp]
  exact (statement (by decide) _).comp <| (statement (by decide) _).comp <| (statement (by decide) _).comp <|
    (statement (by decide) _).comp <| (statement (by decide) _).comp <| (statement (by decide) _).comp <|
    (statement (by decide) _).comp <| statement (by decide) _

/-! ## What DERIVEKEY leaves and leaves alone (R130, R137) -/

/-- R130: byte `j` of the normalized keyword. -/
theorem normalizedKeyword_getElem (s : State) {j : Nat} (hj : j < 32) : (normalizedKeyword s)[j] = keywordByte s j := by
  rw [normalizedKeyword, Vector.getElem_ofFn]

/-- R139: only the first 32 bytes, padded, count. -/
theorem normalizedKeyword_congr {s1 s2 : State} (h : ∀ j, j < 32 → keywordByte s1 j = keywordByte s2 j) :
    normalizedKeyword s1 = normalizedKeyword s2 := by
  apply Vector.ext
  intro j hj
  rw [normalizedKeyword_getElem s1 hj, normalizedKeyword_getElem s2 hj, h j hj]

/-- R136: every normalized keyword has an expansion. -/
theorem exists_isExpansion (s : State) : ∃ m, IsExpansion (normalizedKeyword s) m := by
  obtain ⟨km, kr, -, hexp⟩ := deriveBody_eq s
  exact ⟨⟨km, kr⟩, hexp⟩

/-- R137: what a completed `DERIVEKEY` leaves, under any key material that expands the normalized keyword. -/
theorem complete_deriveBody_of_expansion {s : State} {m : KeyMaterial} (hm : IsExpansion (normalizedKeyword s) m) :
    complete (deriveBody s) = { s with
      kw := normalizedKeyword s
      km := m.km
      kr := m.kr
      kvalid := true
      err := .none
      k := unspecifiedK s.epoch
      epoch := s.epoch + 1 } := by
  rw [deriveBody_of_expansion hm, complete]

/-- Settles O25: the completed state under the expansion of the normalized keyword. -/
theorem derivekeyCompletes : Obligations.DerivekeyCompletes := by
  intro s hready
  obtain ⟨m, hm⟩ := exists_isExpansion s
  refine ⟨_, exec_derivekey_of_ready hready, ?_⟩
  rw [complete_deriveBody_of_expansion hm]
  exact ⟨fun j => normalizedKeyword_getElem s j.isLt, hm, rfl, rfl, rfl, rfl, rfl, rfl, rfl, rfl, rfl⟩

/-- Settles O26: a raised error changes `ERR` alone; a `DERIVEKEY` that ran writes the key state and leaves `ERR` 0. -/
theorem derivekeyFrame : Obligations.DerivekeyFrame := by
  intro s t h
  rcases exec_next_cases h with ⟨e, -, rfl⟩ | ⟨-, -, rfl⟩
  · exact ⟨rfl, rfl, rfl, rfl, rfl, rfl, rfl, fun _ => ⟨rfl, rfl, rfl, rfl, rfl⟩⟩
  · obtain ⟨m, hm⟩ := exists_isExpansion s
    rw [commandBody, complete_deriveBody_of_expansion hm]
    exact ⟨rfl, rfl, rfl, rfl, rfl, rfl, rfl, fun herr => absurd rfl herr⟩

/-- Settles O28: the two machines share one normalized keyword, so key material that expands it is what both leave. -/
theorem equivalentKeywordsGiveOneKey : Obligations.EquivalentKeywordsGiveOneKey := by
  intro s1 s2 hready1 hready2 hbytes
  have hkeyword : normalizedKeyword s1 = normalizedKeyword s2 := normalizedKeyword_congr hbytes
  obtain ⟨m, hm⟩ := exists_isExpansion s1
  refine ⟨_, _, exec_derivekey_of_ready hready1, exec_derivekey_of_ready hready2, ?_⟩
  rw [complete_deriveBody_of_expansion hm, complete_deriveBody_of_expansion (hkeyword ▸ hm)]
  exact ⟨hkeyword, rfl, rfl⟩

end Sys2Proof.Machine

/-! PROOFS. The round functions (spec 41_round_functions.md): the rotation against the library's, the sums and
differences of R9 over the integers, and the lookup at index 0. -/

namespace Sys2Proof.Machine

/-! ## The rotation (R161) -/

@[simp] theorem rotl32_zero_amount (v : Word) : rotl32 v 0 = v := by rw [rotl32, if_pos rfl]

theorem rotl32_of_ne_zero (v : Word) {n : Rot} (hn : n ≠ 0) :
    rotl32 v n = (v <<< n.toNat) + (v >>> (32 - n.toNat)) := by rw [rotl32, if_neg hn]

/-- No bit position holds a bit that stayed and a bit that re-entered: the re-entered ones are below `n`. -/
theorem shiftLeft_and_shiftRight_eq_zero (v : Word) (n : Nat) : (v <<< n) &&& (v >>> (32 - n)) = 0#32 := by
  apply BitVec.eq_of_getLsbD_eq
  intro b _
  rw [BitVec.getLsbD_and, BitVec.getLsbD_shiftLeft, BitVec.getLsbD_ushiftRight, BitVec.getLsbD_zero]
  by_cases hb : b < n
  · simp [hb]
  · rw [BitVec.getLsbD_of_ge v (32 - n + b) (by omega), Bool.and_false]

/-- R161: the formula over the integers. The sum does not wrap, its two halves being disjoint. -/
theorem rotl32_toNat (v : Word) {n : Rot} (hn : n ≠ 0) :
    (rotl32 v n).toNat = (v.toNat * 2 ^ n.toNat) % 2 ^ 32 + v.toNat / 2 ^ (32 - n.toNat) := by
  rw [rotl32_of_ne_zero v hn, BitVec.toNat_add_of_and_eq_zero (shiftLeft_and_shiftRight_eq_zero v n.toNat),
    BitVec.toNat_shiftLeft, Nat.shiftLeft_eq, BitVec.toNat_ushiftRight, Nat.shiftRight_eq_div_pow]

theorem rotl32_eq_rotateLeft (v : Word) (n : Rot) : rotl32 v n = v.rotateLeft n.toNat := by
  by_cases hn : n = 0
  · rw [hn, rotl32_zero_amount, BitVec.rotateLeft_def]
    simp [BitVec.ushiftRight_eq_zero]
  · rw [rotl32_of_ne_zero v hn, BitVec.add_eq_or_of_and_eq_zero _ _ (shiftLeft_and_shiftRight_eq_zero v n.toNat),
      BitVec.rotateLeft_def, Nat.mod_eq_of_lt n.isLt]

/-- R161, bitwise: bit `b` moves to position `(b + n) mod 32`. -/
theorem rotl32_getLsbD (v : Word) (n : Rot) {b : Nat} (hb : b < 32) :
    (rotl32 v n).getLsbD ((b + n.toNat) % 32) = v.getLsbD b := by
  have hn : n.toNat < 32 := n.isLt
  rw [rotl32_eq_rotateLeft, BitVec.getLsbD_rotateLeft, Nat.mod_eq_of_lt hn]
  by_cases hwrap : b + n.toNat < 32
  · rw [Nat.mod_eq_of_lt hwrap]
    simp [hwrap]
  · have hpos : (b + n.toNat) % 32 = b + n.toNat - 32 := by omega
    have hback : 32 - n.toNat + (b + n.toNat - 32) = b := by omega
    have hlow : b + n.toNat - 32 < n.toNat := by omega
    rw [hpos, hback, decide_eq_true hlow, cond_true]

/-- R161: two rotations whose amounts add up to 0 mod 32 put every bit back. -/
theorem rotl32_rotl32_cancel (v : Word) {n m : Rot} (h : (n.toNat + m.toNat) % 32 = 0) :
    rotl32 (rotl32 v n) m = v := by
  apply BitVec.eq_of_getLsbD_eq
  intro b hb
  have hreturn : ((b + n.toNat) % 32 + m.toNat) % 32 = b := by omega
  calc (rotl32 (rotl32 v n) m).getLsbD b
      = (rotl32 (rotl32 v n) m).getLsbD (((b + n.toNat) % 32 + m.toNat) % 32) := by rw [hreturn]
    _ = (rotl32 v n).getLsbD ((b + n.toNat) % 32) := rotl32_getLsbD _ m (Nat.mod_lt _ (by decide))
    _ = v.getLsbD b := rotl32_getLsbD v n hb

/-- Settles O18: the formula and the bits of the rotation, and the complementary amount as one that adds up to 0. -/
theorem rotationMovesEveryBit : Obligations.RotationMovesEveryBit := by
  intro v n
  refine ⟨rotl32_zero_amount v, rotl32_toNat v, fun _ => rotl32_getLsbD v n, rotl32_rotl32_cancel v ?_⟩
  have hn : n.toNat < 32 := n.isLt
  rw [BitVec.toNat_ofNat]
  omega

/-! ## The round functions over the integers (R9, R163 to R165) -/

theorem add32_eq_ofNat (a b : Word) : add32 a b = BitVec.ofNat 32 (a.toNat + b.toNat) := BitVec.add_def a b

theorem sub32_eq_ofNat (a b : Word) : sub32 a b = BitVec.ofNat 32 (a.toNat + (2 ^ 32 - b.toNat)) := by
  rw [sub32, BitVec.sub_def, Nat.add_comm]

theorem SubWords.out1_toNat (t : SubWords) :
    t.out1.toNat = ((t.s1 ^^^ t.s2).toNat + (2 ^ 32 - t.s3.toNat) + t.s4.toNat) % 2 ^ 32 := by
  rw [out1, add32_eq_ofNat, sub32_eq_ofNat, xor32, BitVec.toNat_ofNat, BitVec.toNat_ofNat, Nat.mod_add_mod]

theorem SubWords.out2_eq_ofNat (t : SubWords) :
    t.out2 = BitVec.ofNat 32 (t.s1.toNat + (2 ^ 32 - t.s2.toNat) + t.s3.toNat) ^^^ t.s4 := by
  rw [out2, xor32, add32, sub32_eq_ofNat, BitVec.ofNat_add _ t.s3.toNat, BitVec.ofNat_toNat, BitVec.setWidth_eq]

theorem SubWords.out3_toNat (t : SubWords) :
    t.out3.toNat = ((BitVec.ofNat 32 (t.s1.toNat + t.s2.toNat) ^^^ t.s3).toNat + (2 ^ 32 - t.s4.toNat)) % 2 ^ 32 := by
  rw [out3, sub32_eq_ofNat, BitVec.toNat_ofNat, add32_eq_ofNat, xor32]

/-- Settles O19: the mask combined over the integers, then the output combination; the worked examples are computed. -/
theorem roundFunctionsWrapSilently : Obligations.RoundFunctionsWrapSilently := by
  refine ⟨fun d kr km => ⟨?_, ?_, ?_⟩, by decide +kernel⟩
  · rw [f1, add32_eq_ofNat]
    exact SubWords.out1_toNat _
  · rw [f2, xor32]
    exact SubWords.out2_eq_ofNat _
  · rw [f3, sub32_eq_ofNat]
    exact SubWords.out3_toNat _

/-! ## The lookup at index 0 (R164, R165) -/

theorem rotl32_zero_word (n : Rot) : rotl32 0#32 n = 0#32 := by
  rw [rotl32_eq_rotateLeft, BitVec.rotateLeft_def, BitVec.zero_shiftLeft, BitVec.zero_ushiftRight, BitVec.or_self]

/-- R162's example: the first entry of each table. -/
theorem sboxsub_zero :
    sboxsub 0#32 = { s1 := 0x30fb40d4, s2 := 0x1f201094, s3 := 0x8defc240, s4 := 0x9db30420 } := by decide +kernel

/-- Settles O20: the mask cancels the data, and the rotation of 0 is 0. -/
theorem equalMaskAndDataGiveIndexZero : Obligations.EqualMaskAndDataGiveIndexZero := by
  intro d kr
  constructor
  · rw [f2, xor32, BitVec.xor_self, rotl32_zero_word, sboxsub_zero]
    decide
  · rw [f3, sub32, BitVec.sub_self, rotl32_zero_word, sboxsub_zero]
    decide

end Sys2Proof.Machine

/-! PROOFS. The block transform (spec 42_block_transform.md): the quad-rounds and the block functions as rows of the flat
table (R186), a row that undoes itself, and the known answers (95_test_vectors.md). -/

namespace Sys2Proof.Machine

/-! ## The block registers by index (R36) -/

theorem Block.get_set (x : Block) (i j : Fin 4) (v : Word) : (x.set j v).get i = if i = j then v else x.get i := by
  fin_cases j <;> fin_cases i <;> rfl

@[simp] theorem Block.set_set (x : Block) (i : Fin 4) (v w : Word) : (x.set i v).set i w = x.set i w := by
  fin_cases i <;> rfl

@[simp] theorem Block.set_get (x : Block) (i : Fin 4) : x.set i (x.get i) = x := by
  fin_cases i <;> rfl

/-! ## The quad-rounds as rows (R181, R182, R186) -/

/-- R181: the four rounds of `Q(i)` as rows of the table, in the order `Q(i)` runs them. -/
def quadRows (i : Fin 12) : List RoundRow :=
  [{ fn := .f1, src := 3, dst := 2, key := ⟨4 * i.val, by omega⟩ },
    { fn := .f2, src := 2, dst := 1, key := ⟨4 * i.val + 1, by omega⟩ },
    { fn := .f3, src := 1, dst := 0, key := ⟨4 * i.val + 2, by omega⟩ },
    { fn := .f1, src := 0, dst := 3, key := ⟨4 * i.val + 3, by omega⟩ }]

theorem quad_eq_foldl (m : KeyMaterial) (x : Block) (i : Fin 12) :
    quad m x i = (quadRows i).foldl (applyRow m) x := rfl

theorem quadBar_eq_foldl (m : KeyMaterial) (x : Block) (i : Fin 12) :
    quadBar m x i = (quadRows i).reverse.foldl (applyRow m) x := rfl

theorem roundRows_eq : roundRows =
    ([0, 1, 2, 3, 4, 5] : List (Fin 12)).flatMap quadRows ++
      ([6, 7, 8, 9, 10, 11] : List (Fin 12)).flatMap fun i => (quadRows i).reverse := by decide

theorem roundRows_reverse_eq : roundRows.reverse =
    ([11, 10, 9, 8, 7, 6] : List (Fin 12)).flatMap quadRows ++
      ([5, 4, 3, 2, 1, 0] : List (Fin 12)).flatMap fun i => (quadRows i).reverse := by decide

/-- Forward quad-rounds and then reverse ones are the rows of all of them, one after another. -/
theorem foldl_quads_eq_foldl_rows (m : KeyMaterial) (forward backward : List (Fin 12)) (x : Block) :
    backward.foldl (quadBar m) (forward.foldl (quad m) x) =
      (forward.flatMap quadRows ++ backward.flatMap fun i => (quadRows i).reverse).foldl (applyRow m) x := by
  rw [List.foldl_append, List.foldl_flatMap, List.foldl_flatMap]
  rfl

/-- R183, R186: encryption runs the table from the top down. -/
theorem encblk_eq_foldl_rows (m : KeyMaterial) (x : Block) : encblk m x = roundRows.foldl (applyRow m) x := by
  rw [roundRows_eq, ← foldl_quads_eq_foldl_rows, encblk]

/-- R184, R186: decryption runs it from the bottom up. -/
theorem decblk_eq_foldl_rows (m : KeyMaterial) (x : Block) : decblk m x = roundRows.reverse.foldl (applyRow m) x := by
  rw [roundRows_reverse_eq, ← foldl_quads_eq_foldl_rows, decblk]

/-- Settles O31: the loops are the table's rows, and the 48 keys of the table are listed. -/
theorem fortyEightRoundTable : Obligations.FortyEightRoundTable :=
  ⟨fun m x => ⟨encblk_eq_foldl_rows m x, decblk_eq_foldl_rows m x⟩, by decide, by decide⟩

/-! ## Rows undone (R185) -/

/-- A row that reads another register than it writes undoes itself, whatever its function. -/
theorem applyRow_applyRow (m : KeyMaterial) {r : RoundRow} (h : r.src ≠ r.dst) (x : Block) :
    applyRow m (applyRow m x r) r = x := by
  simp only [applyRow, Block.get_set, if_neg h, if_true, Block.set_set, xor32_xor32_cancel_right, Block.set_get]

/-- Rows run back in the opposite order undo themselves. -/
theorem foldl_reverse_foldl_rows (m : KeyMaterial) {rows : List RoundRow} (h : ∀ r ∈ rows, r.src ≠ r.dst) (x : Block) :
    rows.reverse.foldl (applyRow m) (rows.foldl (applyRow m) x) = x := by
  induction rows generalizing x with
  | nil => rfl
  | cons r rows ih =>
    obtain ⟨hr, hrows⟩ := List.forall_mem_cons.1 h
    rw [List.reverse_cons, List.foldl_append, List.foldl_cons (l := rows), ih hrows]
    exact applyRow_applyRow m hr x

/-- The same, the reversed rows run first. -/
theorem foldl_foldl_reverse_rows (m : KeyMaterial) {rows : List RoundRow} (h : ∀ r ∈ rows, r.src ≠ r.dst) (x : Block) :
    rows.foldl (applyRow m) (rows.reverse.foldl (applyRow m) x) = x := by
  have hreverse : ∀ r ∈ rows.reverse, r.src ≠ r.dst := fun r hr => h r (List.mem_reverse.1 hr)
  simpa only [List.reverse_reverse] using foldl_reverse_foldl_rows m hreverse x

theorem quadRows_src_ne_dst (i : Fin 12) : ∀ r ∈ quadRows i, r.src ≠ r.dst := by simp [quadRows]

theorem roundRows_src_ne_dst : ∀ r ∈ roundRows, r.src ≠ r.dst := by decide

theorem quadBar_quad (m : KeyMaterial) (x : Block) (i : Fin 12) : quadBar m (quad m x i) i = x := by
  rw [quad_eq_foldl, quadBar_eq_foldl, foldl_reverse_foldl_rows m (quadRows_src_ne_dst i)]

theorem quad_quadBar (m : KeyMaterial) (x : Block) (i : Fin 12) : quad m (quadBar m x i) i = x := by
  rw [quad_eq_foldl, quadBar_eq_foldl, foldl_foldl_reverse_rows m (quadRows_src_ne_dst i)]

@[simp] theorem decblk_encblk (m : KeyMaterial) (x : Block) : decblk m (encblk m x) = x := by
  rw [encblk_eq_foldl_rows, decblk_eq_foldl_rows, foldl_reverse_foldl_rows m roundRows_src_ne_dst]

@[simp] theorem encblk_decblk (m : KeyMaterial) (x : Block) : encblk m (decblk m x) = x := by
  rw [encblk_eq_foldl_rows, decblk_eq_foldl_rows, foldl_foldl_reverse_rows m roundRows_src_ne_dst]

/-- Settles O29: each side runs the rows of the other in the opposite order. -/
theorem quadRoundsInvertEachOther : Obligations.QuadRoundsInvertEachOther := fun m x =>
  ⟨fun i => ⟨quadBar_quad m x i, quad_quadBar m x i⟩, decblk_encblk m x, encblk_decblk m x⟩

/-- Settles O30: the other block function is the two-sided inverse. -/
theorem blockFunctionsAreBijections : Obligations.BlockFunctionsAreBijections := fun m =>
  have hleft : Function.LeftInverse (decblk m) (encblk m) := decblk_encblk m
  have hright : Function.RightInverse (decblk m) (encblk m) := encblk_decblk m
  ⟨⟨hleft.injective, hright.surjective⟩, ⟨hright.injective, hleft.surjective⟩⟩

/-! ## The known answers (R188) -/

/-- The 32 bytes of a 256-bit key, the most significant first (R8). -/
def keywordOfBits (key : BitVec 256) : Vector Byte 32 := Vector.ofFn fun j => key.extractLsb' (248 - 8 * j.val) 8

theorem normalizedKeyword_of_keywordIs {s : State} {key : BitVec 256} (h : KeywordIs s key) :
    normalizedKeyword s = keywordOfBits key := by
  apply Vector.ext
  intro j hj
  rw [normalizedKeyword_getElem s hj, h j hj, keywordOfBits, Vector.getElem_ofFn]

/-- The key material that the model's `EXPAND` gives a normalized keyword, run on the machine after reset. -/
def expansionOf (kw : Vector Byte 32) : KeyMaterial := keyMaterial (expand (loadk { State.reset with kw := kw }))

theorem isExpansion_expansionOf (kw : Vector Byte 32) : IsExpansion kw (expansionOf kw) := by
  obtain ⟨km, kr, heq, hpairs⟩ := expand_eq (loadk { State.reset with kw := kw })
  rw [expansionOf, heq]
  exact hpairs

/-- R137: the key material a completed `DERIVEKEY` leaves. -/
theorem keyMaterial_complete_deriveBody (s : State) :
    keyMaterial (complete (deriveBody s)) = expansionOf (normalizedKeyword s) := by
  rw [complete_deriveBody_of_expansion (isExpansion_expansionOf _), keyMaterial]

/-- Settles O53: the four ciphertexts are computed from the expansions of the four keywords, and `DECBLK` undoes
`ENCBLK`. -/
theorem knownAnswers : Obligations.KnownAnswers := by
  intro s key ciphertext hready hkey hmem
  have hencrypts : encblk (expansionOf (keywordOfBits key)) (blockOfBits 0) = blockOfBits ciphertext := by
    simp only [List.mem_cons, List.not_mem_nil, or_false, Prod.mk.injEq] at hmem
    rcases hmem with ⟨rfl, rfl⟩ | ⟨rfl, rfl⟩ | ⟨rfl, rfl⟩ | ⟨rfl, rfl⟩
    all_goals decide +kernel
  refine ⟨_, exec_derivekey_of_ready hready, ?_⟩
  rw [keyMaterial_complete_deriveBody, normalizedKeyword_of_keywordIs hkey, ← hencrypts]
  exact ⟨rfl, decblk_encblk _ _⟩

end Sys2Proof.Machine

/-! PROOFS. The buffer codec (spec 43_buffer_codec.md): the checks of a transform, what one that runs leaves in each block
and leaves alone, and two transforms that undo each other. -/

namespace Sys2Proof.Machine

/-! ## A transform and its block function (R204, R205) -/

/-- The command runs over the blocks of the buffer with this block function. -/
inductive CodesBy : Instr → (KeyMaterial → Block → Block) → Prop where
  | encrypt : CodesBy .xformE encblk
  | decrypt : CodesBy .xformD decblk

theorem CodesBy.isTransform {i : Instr} {g : KeyMaterial → Block → Block} : CodesBy i g → IsTransform i
  | .encrypt => .inl rfl
  | .decrypt => .inr rfl

theorem IsTransform.exists_codesBy {i : Instr} (hi : IsTransform i) : ∃ g, CodesBy i g := by
  rcases hi with rfl | rfl
  · exact ⟨encblk, .encrypt⟩
  · exact ⟨decblk, .decrypt⟩

theorem CodesBy.commandBody_eq {i : Instr} {g : KeyMaterial → Block → Block} (hg : CodesBy i g) (s : State) :
    commandBody i s = transformBody (g (keyMaterial s)) s := by
  cases hg with
  | encrypt | decrypt => rfl

theorem CodesBy.injective {i : Instr} {g : KeyMaterial → Block → Block} (hg : CodesBy i g) (m : KeyMaterial) :
    Function.Injective (g m) := by
  obtain ⟨hencrypt, hdecrypt⟩ := blockFunctionsAreBijections m
  cases hg with
  | encrypt => exact hencrypt.injective
  | decrypt => exact hdecrypt.injective

/-- What a transform leaves on a ready machine. -/
theorem CodesBy.exec_of_ready {i : Instr} {g : KeyMaterial → Block → Block} (hg : CodesBy i g) {s : State}
    (h : TransformReady s) : exec i s = .next (complete (transformBody (g (keyMaterial s)) s)) := by
  rw [exec_of_transformReady hg.isTransform h, hg.commandBody_eq]

/-! ## The checks (R201) -/

/-- R201: the check of a transform, whichever of the two it is. -/
theorem IsTransform.commandCheck_eq {i : Instr} (hi : IsTransform i) (s : State) :
    commandCheck i s = transformCheck s := by
  rcases hi with rfl | rfl
  · rfl
  · rfl

/-- A transform that answers a next state raised an error and changed nothing else, or ran on a ready machine. -/
theorem CodesBy.next_cases {i : Instr} {g : KeyMaterial → Block → Block} (hg : CodesBy i g) {s t : State}
    (h : exec i s = .next t) :
    (∃ e, t = raise e s) ∨ (TransformReady s ∧ t = complete (transformBody (g (keyMaterial s)) s)) := by
  rcases exec_next_cases h with ⟨e, -, ht⟩ | ⟨hcheck, hbound, ht⟩
  · exact .inl ⟨e, ht⟩
  · rw [hg.isTransform.commandCheck_eq] at hcheck
    obtain ⟨hkey, hmultiple⟩ := transformCheck_none.1 hcheck
    have hsize : lenBytes s ≤ s.buffer.size := by
      cases hg with
      | encrypt | decrypt => exact of_decide_eq_true hbound
    exact .inr ⟨⟨hkey, hmultiple, hsize⟩, by rw [ht, hg.commandBody_eq]⟩

/-- Settles O33: the two errors the check of a transform can find, the missing key first. -/
theorem transformChecksInOrder : Obligations.TransformChecksInOrder := by
  intro i s hi
  have hraises {e : ErrCode} (he : transformCheck s = some e) : exec i s = .next (raise e s) :=
    exec_of_error ((IsTransform.commandCheck_eq hi s).trans he)
  refine ⟨fun hkey => hraises ?_, fun hkey hlen => hraises ?_⟩
  · rw [transformCheck, if_pos hkey]
  · rw [transformCheck, if_neg (by rw [hkey]; decide), if_pos hlen]

/-! ## The buffer a transform leaves (R204, R205) -/

/-- Each block below `LEN / 16` is coded once. -/
theorem transformBody_loadBlock (f : Block → Block) {s : State} (hwf : s.buffer.wf) (hsize : lenBytes s ≤ s.buffer.size)
    {b : Nat} (hb : b < blockCount s) : (transformBody f s).buffer.loadBlock b = f (s.buffer.loadBlock b) := by
  obtain ⟨-, hbuffer⟩ := transformBody_spaces f s
  rw [hbuffer, codedSpace_loadBlock hwf f List.nodup_range (block_fits hsize), if_pos (List.mem_range.2 hb)]

/-- Every byte outside those blocks is kept. -/
theorem transformBody_byteAt (f : Block → Block) {s : State} (hwf : s.buffer.wf) (hsize : lenBytes s ≤ s.buffer.size)
    {off : Nat} (hoff : OutsideBlocks s off) : (transformBody f s).buffer.byteAt off = s.buffer.byteAt off := by
  obtain ⟨-, hbuffer⟩ := transformBody_spaces f s
  rw [hbuffer, codedSpace_byteAt_other hwf f (block_fits hsize) fun b hb => hoff b (List.mem_range.1 hb)]

theorem transformBody_size (f : Block → Block) (s : State) : (transformBody f s).buffer.size = s.buffer.size := by
  obtain ⟨-, hbuffer⟩ := transformBody_spaces f s
  rw [hbuffer, codedSpace_size]

/-- No block reaches `LEN` or beyond. -/
theorem outsideBlocks_of_len_le {s : State} {off : Nat} (h : lenBytes s ≤ off) : OutsideBlocks s off := by
  intro b hb
  rw [blockCount] at hb
  omega

/-- What a completed transform leaves as it was: the key state, `LEN`, `k`, the KEYWORD space and the host's side (R204). -/
theorem complete_transformBody_frame (f : Block → Block) (s : State) :
    let t := complete (transformBody f s)
    t.kw = s.kw ∧ t.km = s.km ∧ t.kr = s.kr ∧ t.kvalid = s.kvalid ∧ t.len = s.len ∧ t.k = s.k ∧
    t.keyword = s.keyword ∧ t.pending = s.pending ∧ t.readback = s.readback ∧ t.params = s.params := by
  rw [transformBody_eq]
  exact ⟨rfl, rfl, rfl, rfl, rfl, rfl, rfl, rfl, rfl, rfl⟩

/-- R204, R205: a transform completes on every ready machine and codes each block by its block function. -/
theorem CodesBy.completes {i : Instr} {g : KeyMaterial → Block → Block} (hg : CodesBy i g) {s : State}
    (hwf : s.buffer.wf) (hready : TransformReady s) :
    ∃ t, exec i s = .next t ∧
      (∀ b, b < lenBytes s / 16 → t.buffer.loadBlock b = g (keyMaterial s) (s.buffer.loadBlock b)) ∧
      (∀ off, lenBytes s ≤ off → t.buffer.byteAt off = s.buffer.byteAt off) ∧ t.buffer.size = s.buffer.size ∧
      t.err = .none ∧ t.kw = s.kw ∧ t.km = s.km ∧ t.kr = s.kr ∧ t.kvalid = s.kvalid ∧ t.len = s.len ∧ t.k = s.k ∧
      t.keyword = s.keyword ∧ t.pending = s.pending ∧ t.readback = s.readback ∧ t.params = s.params := by
  have hexec := hg.exec_of_ready hready
  obtain ⟨-, -, hsize⟩ := hready
  exact ⟨_, hexec, fun b hb => transformBody_loadBlock _ hwf hsize hb,
    fun off hoff => transformBody_byteAt _ hwf hsize (outsideBlocks_of_len_le hoff), transformBody_size _ s,
    complete_err _, complete_transformBody_frame _ s⟩

/-- Settles O34: `CodesBy.completes` for `XFORM.E`. -/
theorem xformEncryptCompletes : Obligations.XformEncryptCompletes := fun _ => CodesBy.encrypt.completes

/-- Settles O35: `CodesBy.completes` for `XFORM.D`. -/
theorem xformDecryptCompletes : Obligations.XformDecryptCompletes := fun _ => CodesBy.decrypt.completes

/-- Settles O36: a raised error changes `ERR` alone; a transform that ran keeps all but its blocks, and `ERR` is 0. -/
theorem transformFrame : Obligations.TransformFrame := by
  intro i s t hi hwf h
  obtain ⟨g, hg⟩ := IsTransform.exists_codesBy hi
  rcases hg.next_cases h with ⟨e, rfl⟩ | ⟨⟨-, -, hsize⟩, rfl⟩
  · exact ⟨rfl, rfl, rfl, rfl, rfl, rfl, rfl, rfl, rfl, rfl, rfl, fun _ _ => rfl, fun _ => ⟨rfl, rfl⟩⟩
  · obtain ⟨hkw, hkm, hkr, hkvalid, hlen, hk, hkeyword, hpending, hreadback, hparams⟩ :=
      complete_transformBody_frame (g (keyMaterial s)) s
    exact ⟨hkw, hkm, hkr, hkvalid, hlen, hk, hkeyword, hpending, hreadback, hparams, transformBody_size _ s,
      fun off hoff => transformBody_byteAt _ hwf hsize hoff, fun herr => absurd (complete_err _) herr⟩

/-- Settles O37: with `LEN` 0 the machine is ready whatever is bound, and the loop runs over no block. -/
theorem emptyBufferCompletes : Obligations.EmptyBufferCompletes := by
  intro i s hi hkey hlen
  obtain ⟨g, hg⟩ := IsTransform.exists_codesBy hi
  have hbytes : lenBytes s = 0 := congrArg BitVec.toNat hlen
  have hready : TransformReady s := ⟨hkey, by rw [hbytes], by rw [hbytes]; exact Nat.zero_le _⟩
  obtain ⟨-, hbuffer⟩ := transformBody_spaces (g (keyMaterial s)) s
  refine ⟨_, hg.exec_of_ready hready, complete_err _, ?_⟩
  rw [complete_buffer, hbuffer, blockCount, hbytes]
  rfl

/-- Settles O39: the block function of a transform is injective, and both runs use it under one key material. -/
theorem blocksAreIndependent : Obligations.BlocksAreIndependent := by
  intro i s1 s2 hi hwf1 hwf2 hready1 hready2 hkey hlen
  obtain ⟨g, hg⟩ := IsTransform.exists_codesBy hi
  obtain ⟨t1, hexec1, hblocks1, -⟩ := hg.completes hwf1 hready1
  obtain ⟨t2, hexec2, hblocks2, -⟩ := hg.completes hwf2 hready2
  have hbytes : lenBytes s1 = lenBytes s2 := congrArg BitVec.toNat hlen
  refine ⟨t1, t2, hexec1, hexec2, fun b c hb hc => ?_⟩
  rw [hblocks1 b hb, hblocks2 c (hbytes ▸ hc), hkey, (hg.injective _).eq_iff]

/-! ## Transforms that undo each other (R210) -/

/-- Two canonical spaces of one size are equal when all their blocks are: every offset lies in a block. -/
theorem space_ext_loadBlock {sp tp : Space} (hs : sp.wf) (ht : tp.wf) (hsize : sp.size = tp.size)
    (h : ∀ b, sp.loadBlock b = tp.loadBlock b) : sp = tp :=
  space_ext hs ht hsize fun o => byteAt_of_loadBlock (h (o / 16)) (by omega) (by omega)

/-- The loop with the inverse block function undoes the loop, block by block. -/
theorem codedSpace_codedSpace {sp : Space} (hwf : sp.wf) {f f' : Block → Block} (hinv : Function.LeftInverse f' f)
    {order : List Nat} (nodup : order.Nodup) (fits : ∀ b ∈ order, 16 * b + 16 ≤ sp.size) :
    codedSpace f' order (codedSpace f order sp) = sp := by
  have hwf' := codedSpace_wf hwf f order
  refine space_ext_loadBlock (codedSpace_wf hwf' f' order) hwf (by simp only [codedSpace_size]) fun b => ?_
  rw [codedSpace_loadBlock hwf' f' nodup (by simpa only [codedSpace_size] using fits), codedSpace_loadBlock hwf f nodup fits]
  by_cases hb : b ∈ order
  · rw [if_pos hb, if_pos hb, hinv]
  · rw [if_neg hb, if_neg hb]

/-- R210: `c` is ready and its blocks have been coded by `g`. A transform whose block function undoes `g`, run under the
same key material and `LEN` on that buffer, completes and restores the buffer of `c`. -/
theorem CodesBy.restores {j : Instr} {g g' : KeyMaterial → Block → Block} (hg' : CodesBy j g')
    (hinv : ∀ m, Function.LeftInverse (g' m) (g m)) {c d : State} (hwf : c.buffer.wf) (hready : TransformReady c)
    (hkvalid : d.kvalid = true) (hkey : keyMaterial d = keyMaterial c) (hlen : d.len = c.len)
    (hbuffer : d.buffer = (transformBody (g (keyMaterial c)) c).buffer) :
    ∃ d', exec j d = .next d' ∧ d'.buffer = c.buffer := by
  obtain ⟨-, hmultiple, hsize⟩ := hready
  have hbytes : lenBytes d = lenBytes c := congrArg BitVec.toNat hlen
  have hready' : TransformReady d :=
    ⟨hkvalid, by rw [hbytes, hmultiple], by rw [hbytes, hbuffer, transformBody_size]; exact hsize⟩
  obtain ⟨-, hcoded⟩ := transformBody_spaces (g (keyMaterial c)) c
  obtain ⟨-, hcoded'⟩ := transformBody_spaces (g' (keyMaterial d)) d
  refine ⟨_, hg'.exec_of_ready hready', ?_⟩
  rw [complete_buffer, hcoded', hbuffer, hcoded, hkey, blockCount, hbytes]
  exact codedSpace_codedSpace hwf (hinv _) List.nodup_range (block_fits hsize)

/-- R210: two transforms, one after the other, the second with the inverse block function. -/
theorem CodesBy.round_trip {i j : Instr} {g g' : KeyMaterial → Block → Block} (hg : CodesBy i g) (hg' : CodesBy j g')
    (hinv : ∀ m, Function.LeftInverse (g' m) (g m)) {s : State} (hwf : s.buffer.wf) (hready : TransformReady s) :
    ∃ t u, exec i s = .next t ∧ exec j t = .next u ∧ u.buffer = s.buffer := by
  have hexec := hg.exec_of_ready hready
  have hkvalid : s.kvalid = true := hready.1
  obtain ⟨-, hkm, hkr, hkept, hlen, -⟩ := complete_transformBody_frame (g (keyMaterial s)) s
  have hkey : keyMaterial (complete (transformBody (g (keyMaterial s)) s)) = keyMaterial s := by
    rw [keyMaterial, hkm, hkr, keyMaterial]
  obtain ⟨u, hexec', hrestored⟩ := hg'.restores hinv hwf hready (hkept.trans hkvalid) hkey hlen (complete_buffer _)
  exact ⟨_, u, hexec, hexec', hrestored⟩

/-- Settles O41: `DECBLK` undoes `ENCBLK`, and `ENCBLK` undoes `DECBLK`. -/
theorem transformsRoundTrip : Obligations.TransformsRoundTrip := fun _ hwf hready =>
  ⟨CodesBy.encrypt.round_trip .decrypt decblk_encblk hwf hready,
    CodesBy.decrypt.round_trip .encrypt encblk_decblk hwf hready⟩

/-- R137: the key material a `DERIVEKEY` that ran has left. -/
theorem keyMaterial_of_exec_derivekey {s t : State} (hready : DeriveReady s) (h : exec .derivekey s = .next t) :
    keyMaterial t = expansionOf (normalizedKeyword s) := by
  obtain rfl := Host.Outcome.next.inj ((exec_derivekey_of_ready hready).symm.trans h)
  exact keyMaterial_complete_deriveBody s

/-- Settles O42: keywords that normalize alike leave one key material, and under it `XFORM.D` restores the buffer. -/
theorem roundTripAcrossRekeying : Obligations.RoundTripAcrossRekeying := by
  intro a b a' b' c c' d hreadyA hreadyB hbytes hderiveA hderiveB hwf hready hkeyC hencrypt hkvalid hkeyD hlen hbuffer
  have hkey : keyMaterial d = keyMaterial c := by
    rw [hkeyD, hkeyC, keyMaterial_of_exec_derivekey hreadyA hderiveA, keyMaterial_of_exec_derivekey hreadyB hderiveB,
      normalizedKeyword_congr hbytes]
  obtain rfl := Host.Outcome.next.inj ((CodesBy.encrypt.exec_of_ready hready).symm.trans hencrypt)
  obtain ⟨-, -, -, -, hlenC, -⟩ := complete_transformBody_frame (encblk (keyMaterial c)) c
  exact CodesBy.decrypt.restores decblk_encblk hwf hready hkvalid hkey (hlen.trans hlenC) hbuffer

end Sys2Proof.Machine

/-! PROOFS. The constant tables (spec 44_constant_tables.md): one step of the two running sums, wherever in the tables it
falls, the period of the rotation constants, and the checks of the S-boxes. -/

namespace Sys2Proof.Machine

/-! ## The schedule constants (R231, R232) -/

/-- R231: one pass of the loop, from the entry the loop visits as number `8i + j` to the one it visits next. -/
theorem tm_next {j i j' i' : Nat} (h : 8 * i' + j' = 8 * i + j + 1) :
    Config.tm j' i' = Config.tm j i + Config.mm := by
  rw [Config.tm, Config.tm, h, BitVec.ofNat_add, BitVec.add_mul, BitVec.one_mul, BitVec.add_assoc]

theorem tr_toNat (j i : Nat) : (Config.tr j i).toNat = (19 + 17 * (8 * i + j)) % 32 := BitVec.toNat_ofNat _ 5

/-- R232: one pass of the loop, as for R231. -/
theorem tr_toNat_next {j i j' i' : Nat} (h : 8 * i' + j' = 8 * i + j + 1) :
    (Config.tr j' i').toNat = ((Config.tr j i).toNat + 17) % 32 := by
  rw [tr_toNat, tr_toNat, h]
  omega

/-- R232: 4 octaves are 32 steps, and 32 steps of 17 add 0 mod 32. -/
theorem tr_add_four_octaves (j i : Nat) : Config.tr j (i + 4) = Config.tr j i := by
  apply BitVec.eq_of_toNat_eq
  rw [tr_toNat, tr_toNat]
  omega

/-- Settles O22: the next entry within an octave and the first entry of the next octave are both one pass of the loop
away. -/
theorem scheduleConstantsAreRunningSums : Obligations.ScheduleConstantsAreRunningSums :=
  ⟨by decide, tr_toNat 0 0, fun i j =>
    ⟨tm_next rfl, tm_next rfl, tr_toNat_next rfl, tr_toNat_next rfl, tr_add_four_octaves j i⟩⟩

/-! ## The S-boxes (R233) -/

/-- Settles O21: the four exclusive ors, then the four sums, each computed from its table. -/
theorem sboxChecksums : Obligations.SboxChecksums := by
  refine ⟨⟨?_, ?_, ?_, ?_⟩, ?_, ?_, ?_, ?_⟩
  all_goals decide +kernel

end Sys2Proof.Machine

/-! PROOFS. Errors and readability (spec 60_exceptions.md): a raised command changes `ERR` alone, a keyword too long raises
InvalidKeyLength, and no register shows the key state. -/

namespace Sys2Proof.Machine

/-! ## A raised command (R247) -/

/-- R247: a write to `CMD` that answers a next state raised an error on the machine with the move taken off, or ran a
command and left `ERR` none. -/
theorem step_command_next_cases {s t : State} {w : Word} {rest : List HostMove}
    (hpending : s.pending = .writeReg 0 w :: rest) (h : step s = .next t) :
    (∃ e, t = raise e { s with pending := rest }) ∨ t.err = .none := by
  rw [step_command hpending] at h
  cases hdecode : decode w with
  | error r =>
    simp only [hdecode] at h
    exact .inl ⟨.illegalCommand, (Host.Outcome.next.inj h).symm⟩
  | ok i =>
    simp only [hdecode] at h
    rcases exec_next_cases h with ⟨e, -, ht⟩ | ⟨-, -, ht⟩
    · exact .inl ⟨e, ht⟩
    · exact .inr (ht ▸ complete_err _)

/-- Settles O43: a write to `CMD` that leaves `ERR` set has raised an error, and `raise` writes `ERR` alone. -/
theorem errorsChangeOnlyErr : Obligations.ErrorsChangeOnlyErr := by
  intro s t w rest hpending h herr
  rcases step_command_next_cases hpending h with ⟨e, rfl⟩ | hnone
  · rfl
  · exact absurd hnone herr

/-! ## The key state and the registers of the host (R252) -/

/-- R41: `STATUS` shows `ERR` and `KVALID`, so machines that agree on both show the same word. -/
theorem statusWord_congr {s t : State} (herr : t.err = s.err) (hkvalid : t.kvalid = s.kvalid) :
    statusWord t = statusWord s := by
  rw [statusWord, statusWord, herr, hkvalid]

/-- R40 to R43: a read shows `ERR`, `KVALID` and `LEN` at most, whichever register is read. -/
theorem readRegister_congr {s t : State} (reg : Nat) (herr : t.err = s.err) (hkvalid : t.kvalid = s.kvalid)
    (hlen : t.len = s.len) : readRegister reg t = readRegister reg s := by
  rw [readRegister, readRegister, statusWord_congr herr hkvalid, hlen]

/-- Settles O13: the machines differ in nothing that `readRegister_congr` asks for. -/
theorem keyStateUnreadable : Obligations.KeyStateUnreadable := fun _ _ _ _ _ _ reg => readRegister_congr reg rfl rfl rfl

/-! ## A keyword too long (R242) -/

/-- `LEN` is one 32-bit word. -/
theorem lenBytes_lt (s : State) : lenBytes s < 2 ^ 32 := s.len.isLt

/-- Settles O27: the check of `DERIVEKEY` finds the error; the default `KLEN_MAX` is the greatest value `LEN` can hold. -/
theorem longKeywordRaisesInvalidKeyLength : Obligations.LongKeywordRaisesInvalidKeyLength := by
  refine ⟨fun s hlong => exec_of_error (if_pos hlong), fun s hparams => keyCheck_none.2 ?_⟩
  rw [hparams]
  exact Nat.le_pred_of_lt (lenBytes_lt s)

end Sys2Proof.Machine

/-! PROOFS. Reset and hazards (spec 70_reset_and_hazards.md): a reset between two commands, a reset during one, and a command
whose operand is bound too short. -/

namespace Sys2Proof.Machine

/-! ## A reset between two commands (R280) -/

/-- R280: a platform reset, as a step. -/
theorem step_reset {s : State} {rest : List HostMove} (h : s.pending = .reset :: rest) :
    step s = .next (engineReset { s with pending := rest }) := by
  rw [step_hostMove h rfl, hostMove]

/-- Settles O16: the step is `engineReset`, whose fields the laws of the state give one by one. -/
theorem resetMoveDestroysTheInstance : Obligations.ResetMoveDestroysTheInstance := fun _ _ hpending =>
  ⟨_, step_reset hpending, engineReset_kvalid _, engineReset_err _, engineReset_len _, engineReset_keyword _,
    engineReset_buffer _, engineReset_pending _, engineReset_params _⟩

/-! ## A reset during a command (R281) -/

/-- A command's check reads nothing of the host's moves. -/
theorem commandCheck_pending (i : Instr) (s : State) (moves : List HostMove) :
    commandCheck i { s with pending := moves } = commandCheck i s := by
  cases i with
  | derivekey => rfl
  | xformE => rfl
  | xformD => rfl

/-- Nor does the size of its operand depend on them. -/
theorem operandBound_pending (i : Instr) (s : State) (moves : List HostMove) :
    operandBound i { s with pending := moves } = operandBound i s := by
  cases i with
  | derivekey => rfl
  | xformE => rfl
  | xformD => rfl

/-- R281: a reset that arrives while a legal command runs lets the command's partial writes stand and resets the engine. -/
theorem resetDuring_of_ready {w : Word} {i : Instr} {s : State} (hdecode : decode w = .ok i)
    (hcheck : commandCheck i s = none) (hbound : operandBound i s = true) :
    resetDuring w s = .next (engineReset (abortEffect i s)) := by
  simp only [resetDuring, hdecode, hcheck, hbound, if_true]

/-- R281: such a reset, as a step. -/
theorem step_resetDuring_of_ready {s : State} {w : Word} {i : Instr} {rest : List HostMove}
    (hpending : s.pending = .resetDuring w :: rest) (hdecode : decode w = .ok i)
    (hcheck : commandCheck i s = none) (hbound : operandBound i s = true) :
    step s = .next (engineReset (abortEffect i { s with pending := rest })) := by
  rw [step_hostMove hpending rfl, hostMove]
  exact resetDuring_of_ready hdecode ((commandCheck_pending i s rest).trans hcheck)
    ((operandBound_pending i s rest).trans hbound)

/-- A transform cut short neither grows nor shrinks the BUFFER space. -/
theorem abortBuffer_size (s : State) : (abortBuffer s).buffer.size = s.buffer.size := by
  unfold abortBuffer
  exact List.foldlRecOn (motive := fun sp : Space => sp.size = s.buffer.size) _ _ rfl fun sp hsize off _ =>
    (setByte_size sp off _).trans hsize

/-- R281, U3: a transform cut short keeps every byte from `LEN` on: each of its writes lies below. -/
theorem abortBuffer_byteAt_of_len_le {s : State} (hwf : s.buffer.wf) {o : Nat} (ho : lenBytes s ≤ o) :
    (abortBuffer s).buffer.byteAt o = s.buffer.byteAt o := by
  unfold abortBuffer
  refine (List.foldlRecOn (motive := fun sp : Space => sp.wf ∧ sp.byteAt o = s.buffer.byteAt o) _ _ ⟨hwf, rfl⟩ ?_).2
  intro sp ⟨hsp, hkept⟩ off hmem
  have hother : o ≠ off := (Nat.lt_of_lt_of_le (List.mem_range.1 hmem) ho).ne'
  exact ⟨setByte_wf hsp off _, by rw [setByte_byteAt hsp, if_neg fun hwritten => hother hwritten.1, hkept]⟩

/-- R281: a command cut short keeps the KEYWORD space, the size of the BUFFER space and its bytes from `LEN` on. -/
theorem abortEffect_spares {s : State} (hwf : s.buffer.wf) (i : Instr) :
    (abortEffect i s).keyword = s.keyword ∧ (abortEffect i s).buffer.size = s.buffer.size ∧
      ∀ o, lenBytes s ≤ o → (abortEffect i s).buffer.byteAt o = s.buffer.byteAt o := by
  cases i with
  | derivekey => exact ⟨rfl, rfl, fun _ _ => rfl⟩
  | xformE | xformD => exact ⟨abortBuffer_keyword s, abortBuffer_size s, fun _ => abortBuffer_byteAt_of_len_le hwf⟩

/-- Settles O17: the reset gives the three values, `abortEffect_spares` the rest; `DERIVEKEY` leaves nothing behind. -/
theorem resetDuringACommand : Obligations.ResetDuringACommand := by
  intro s w i rest ⟨_, hwf⟩ hpending hdecode hcheck hbound
  obtain ⟨hkeyword, hsize, hbytes⟩ := abortEffect_spares (s := { s with pending := rest }) hwf i
  refine ⟨_, step_resetDuring_of_ready hpending hdecode hcheck hbound, engineReset_kvalid _, engineReset_err _,
    engineReset_len _, ?_⟩
  rw [engineReset_keyword, engineReset_buffer]
  refine ⟨hkeyword, hsize, fun hderive => ?_, hbytes⟩
  rw [hderive, abortEffect]

/-! ## A command whose operand is bound too short (R284 H9) -/

/-- Settles O38: every command is issued alike, its check first and the size of its operand second. -/
theorem shortBindingIsRefused : Obligations.ShortBindingIsRefused := by
  intro i s hcheck hshort
  rw [exec_eq_issue, issue, hcheck, hshort]
  rfl

end Sys2Proof.Machine

/-! PROOFS. The printed words (spec 30_encoding.md R101, 95_test_vectors.md V50): the decoder's reason for each way in which
R102 makes a word illegal, and the words the spec writes out. -/

namespace Sys2Proof.Machine

/-! ## The reason a word is illegal (R102) -/

/-- A word with one of bits 31:9 set is rejected for them, whatever its `OP` and `DIR`. -/
theorem decode_of_reserved_set {w : Word} (hreserved : (CmdFields.ofWord w).reservedZero = false) :
    decode w = .error .reservedBits :=
  if_pos (beq_eq_false_iff_ne.1 hreserved)

/-- A word whose only fault is its `OP` is rejected for it, whatever its `DIR`. -/
theorem decode_of_op_unknown {w : Word} (hreserved : (CmdFields.ofWord w).reservedZero = true)
    (hop : (CmdFields.ofWord w).opKnown = false) : decode w = .error .unknownOp := by
  obtain ⟨hderivekey, hxform⟩ := Bool.or_eq_false_iff.1 hop
  rw [decode, decodeFields, if_neg (not_not.2 (beq_iff_eq.1 hreserved)), if_neg (beq_eq_false_iff_ne.1 hderivekey),
    if_neg (beq_eq_false_iff_ne.1 hxform)]

/-- A word whose only fault is a `DIR` that its `OP` does not take is rejected for it: the `OP` is `DERIVEKEY`'s. -/
theorem decode_of_dir_not_allowed {w : Word} (hreserved : (CmdFields.ofWord w).reservedZero = true)
    (hop : (CmdFields.ofWord w).opKnown = true) (hdir : (CmdFields.ofWord w).dirAllowed = false) :
    decode w = .error .dirOnDerivekey := by
  obtain ⟨hset, hnotXform⟩ := Bool.or_eq_false_iff.1 hdir
  have hderivekey : (CmdFields.ofWord w).op = 0x01 :=
    beq_iff_eq.1 ((Bool.or_eq_true_iff.1 hop).resolve_right (Bool.eq_false_iff.1 hnotXform))
  rw [decode, decodeFields, if_neg (not_not.2 (beq_iff_eq.1 hreserved)), if_pos hderivekey,
    if_neg (beq_eq_false_iff_ne.1 hset)]

/-! ## The words the spec writes out -/

/-- Settles O3: the three words are `encode` of the three commands; each other word meets one case of R102. -/
theorem printedWordsDecode : Obligations.PrintedWordsDecode := by
  unfold Obligations.PrintedWordsDecode
  rw [← encode_derivekey, ← encode_xformE, ← encode_xformD]
  exact ⟨decode_encode _, decode_encode _, decode_encode _,
    decode_of_op_unknown (by decide) (by decide), decode_of_op_unknown (by decide) (by decide),
    decode_of_dir_not_allowed (by decide) (by decide) (by decide),
    decode_of_reserved_set (by decide), decode_of_reserved_set (by decide)⟩

end Sys2Proof.Machine
